-- ==== Sys2Proof/Word.lean ====
section
/-! DEFINITION. The words of the serial frame codec: a byte (R14), a 16-bit half word (the request word of R95, the
device id and the two measured values), and a 32-bit configuration word (R221). All quantities are unsigned (R14). -/

namespace Sys2Proof

/-- A byte: 8 bits, unsigned (R14). -/
abbrev Byte := BitVec 8

/-- A 16-bit unsigned quantity: the device id, a measured value, a request word (R16, R95). -/
abbrev Half := BitVec 16

/-- A 32-bit word of the configuration channel (R221). -/
abbrev Word := BitVec 32

end Sys2Proof
end

