-- ==== Sys2Proof/Config.lean ====
section
/-! DEFINITION. What an implementation of the block fixes and what stays free: the eleven wire constants that R10 makes
arguments of the model, and the transport's answers (R33, R52, U3). -/

namespace Sys2Proof

/-- The eleven wire constants of R10, each a byte under no constraint: no rule assumes any relation between them. They
are arguments of the model (R33, U15), fixed for a given build of the hardware (R225). -/
structure WireConstants where
  reportModeId : Byte
  queryId      : Byte
  sleepId      : Byte
  workPeriodId : Byte
  readByte     : Byte
  writeByte    : Byte
  activeByte   : Byte
  passiveByte  : Byte
  sleepByte    : Byte
  workByte     : Byte
  replyCmdNo   : Byte
  deriving DecidableEq, Repr

/-- The defaults R10 offers, "from general knowledge, not in source". PRESUMED (log entry 1); unsafe for a claim about a
run from reset that leans on a number of it. -/
def WireConstants.sds011 : WireConstants where
  reportModeId := 0x02
  queryId      := 0x04
  sleepId      := 0x06
  workPeriodId := 0x08
  readByte     := 0x00
  writeByte    := 0x01
  activeByte   := 0x00
  passiveByte  := 0x01
  sleepByte    := 0x00
  workByte     := 0x01
  replyCmdNo   := 0xC5

/-- The four kind identifiers differ from one another. R10 assumes no such thing; it is the premise under which a
command frame names its kind (R102: "tells them apart by KIND_ID alone, given values for the four identifiers"). -/
abbrev WireConstants.KindIdsDistinct (w : WireConstants) : Prop :=
  [w.reportModeId, w.queryId, w.sleepId, w.workPeriodId].Nodup

/-- The transport's answer to one pull: a byte or `Timeout` (R51, R52). -/
inductive RxAnswer where
  | byte (b : Byte)
  | timeout
  deriving DecidableEq, Repr, Inhabited

/-- The transport's answer to a pull that no script fixes: one of the 257 answers, under no law (R52, U3). A free value:
nothing constrains it. DESIGN CHOICE of the form (log entry 2); safe. -/
opaque Config.rxAnswer : Nat → RxAnswer

end Sys2Proof
end

