-- ==== Sys2Proof/Syntax.lean ====
section
/-! DEFINITION. The operations of the block, one constructor per row of spec/opcode_table.json (R102): the four command
frames, the two data frames, the ten legal request words, the three reserved ones, and the two configuration accesses. -/

namespace Sys2Proof

/-- The closed enumeration of command kinds (R83), in the order of their codes (R97). -/
inductive Kind where
  | setReportMode
  | query
  | setSleep
  | setWorkPeriod
  deriving DecidableEq, Repr

/-- The direction of a command (R97): code 0 READ, code 1 WRITE. -/
inductive Direction where
  | read
  | write
  deriving DecidableEq, Repr

/-- The four configuration registers (R28), in the order of their addresses (R221). -/
inductive ConfigReg where
  | devid
  | maxrs
  | ctrl
  | timeout
  deriving DecidableEq, Repr

/-- The six error kinds (R240). Status code 7 has no constructor: it is never produced (R98, U13). -/
inductive ErrorKind where
  | timeout
  | checksumMismatch
  | malformedFrame
  | invalidParameter
  | desyncExceeded
  | notAcknowledged
  deriving DecidableEq, Repr

/-- One operation of the block. A field is an operand of the row's encoding; the bits a row fixes are not fields. -/
inductive Instr where
  /-- CMD.SetReportMode (R81, R132): the frame on TX; `dirByte` is DIR, `arg` ARG, `id` the device id, `ck` CK. -/
  | cmdSetReportMode (dirByte arg : Byte) (id : Half) (ck : Byte)
  /-- CMD.Query (R81, R133): DIR and ARG are zero. -/
  | cmdQuery (id : Half) (ck : Byte)
  /-- CMD.SetSleep (R81, R134). -/
  | cmdSetSleep (dirByte arg : Byte) (id : Half) (ck : Byte)
  /-- CMD.SetWorkPeriod (R81, R136): the top three bits of ARG are fixed at 0 (R102). -/
  | cmdSetWorkPeriod (dirByte : Byte) (workTime : BitVec 5) (id : Half) (ck : Byte)
  /-- DATA.measurement (R88): the frame on RX whose command number is `0xC0` (R89). -/
  | dataMeasurement (v1lo v1hi v2lo v2hi : Byte) (id : Half) (ck : Byte)
  /-- DATA.reply (R88, R89): the frame on RX with another command number. -/
  | dataReply (cmdNo v1lo v1hi v2lo v2hi : Byte) (id : Half) (ck : Byte)
  /-- BUILD.SetReportMode (R130, R132). -/
  | buildSetReportMode (dir : Direction) (param : Byte)
  /-- BUILD.Query (R130, R133): direction and parameter are ignored, but stand in the word. -/
  | buildQuery (dir : Direction) (param : Byte)
  /-- BUILD.SetSleep (R130, R134). -/
  | buildSetSleep (dir : Direction) (param : Byte)
  /-- BUILD.SetWorkPeriod (R130, R136). -/
  | buildSetWorkPeriod (dir : Direction) (param : Byte)
  /-- XCHG.SetReportMode (R200). -/
  | xchgSetReportMode (dir : Direction) (param : Byte)
  /-- XCHG.Query (R200): direction and parameter are ignored, but stand in the word. -/
  | xchgQuery (dir : Direction) (param : Byte)
  /-- XCHG.SetSleep (R200). -/
  | xchgSetSleep (dir : Direction) (param : Byte)
  /-- XCHG.SetWorkPeriod (R200). -/
  | xchgSetWorkPeriod (dir : Direction) (param : Byte)
  /-- PARSE (R150): bits 12:10 and 7:0 are ignored; its operand is on PF. -/
  | parse (unusedHi : BitVec 3) (unusedLo : Byte)
  /-- READ (R170): bits 12:10 and 7:0 are ignored. -/
  | read (unusedHi : BitVec 3) (unusedLo : Byte)
  /-- RESERVED.op4to7 (R96): bit 15 set; the other fifteen bits. -/
  | reservedOp (rest : BitVec 15)
  /-- RESERVED.bit8 (R96): bit 8 set; bits 15:9 and 7:0. -/
  | reservedBit8 (hi : BitVec 7) (lo : Byte)
  /-- RESERVED.bit9 (R96): bit 9 set; bits 15:10, bit 8 and bits 7:0. -/
  | reservedBit9 (hi : BitVec 6) (bit8 : BitVec 1) (lo : Byte)
  /-- CFGW (R222): write `value` to a configuration register. -/
  | cfgw (reg : ConfigReg) (value : Word)
  /-- CFGR (R223): read a configuration register; the host supplies no data bits (R221). -/
  | cfgr (reg : ConfigReg)
  deriving DecidableEq, Repr

end Sys2Proof
end

