-- ==== Sys2Proof/Machine/State.lean ====
section
/-! DEFINITION. The state of the block (10_state.md), the far ends of its channels as a step sees them (R8, R9, R33), the
state after reset (R34), and the reasons a step can stop. -/

namespace Sys2Proof.Machine

/-- The scanner's state (R23). -/
inductive ScanState where
  | seekHead
  | readBody
  | validate
  deriving DecidableEq, Repr

/-- Which request is running (R25). -/
inductive CycleOp where
  | read
  | xchg
  deriving DecidableEq, Repr

/-- The most resynchronization attempts a cycle may make: a natural number or unbounded (R25, R176). -/
inductive Limit where
  | unbounded
  | atMost (n : Nat)
  deriving DecidableEq, Repr

/-- The payload of a response whose status is `OK` (R99). -/
inductive Payload where
  /-- BUILD: the 19 bytes of the command frame. -/
  | commandFrame (f : Vector Byte 19)
  /-- PARSE: the two values. -/
  | values (value1 value2 : Half)
  /-- READ and XCHG: the 10 bytes of the validated frame and the two values. -/
  | reading (f : Vector Byte 10) (value1 value2 : Half)
  deriving DecidableEq, Repr

/-- A response on RSP: `OK` with a payload, or an error status with none (R18, R99). -/
inductive Response where
  | ok (p : Payload)
  | error (e : ErrorKind)
  deriving DecidableEq, Repr

/-- What the host does next (R8, R9, R280). -/
inductive HostMove where
  /-- Present a request word on REQ, with bytes on PF (R95, R150). It waits while `busy = 1` (R291). -/
  | request (w : Half) (pf : List Byte)
  /-- Present a configuration access (R221). It waits while `busy = 1` (R291). -/
  | config (write : Bool) (addr : BitVec 2) (data : Word)
  /-- Nothing: the block takes its own next event. -/
  | hold
  /-- Apply the reset input (R280), also while a request runs (R281). -/
  | reset
  /-- Another agent pulls from or pushes to the block's transport (R290). -/
  | foreign
  deriving DecidableEq, Repr

/-- Faults: none. "No request can make the block fault, hang by itself, or enter an undefined state" (R252): every
error ends as a response (R250), and a situation with no step enabled leaves the state as it is (U7, U10). Nothing raises
one; safe. -/
inductive Fault
  deriving DecidableEq, Repr

/-- Refusals: a situation the model gives no meaning. -/
inductive Refusal where
  /-- Raised by `exec` for an instruction with no meaning yet; no arm raises it now. Safe. -/
  | notModelled (mnemonic : String)
  /-- Raised by the step when another agent uses the block's transport: "A model gives such a system no meaning: it
  refuses it" (R290, U9). Safe. -/
  | transportShared
  deriving DecidableEq, Repr

/-- The machine. The first three groups are the block's state; `wire` is the model's arguments (R10, R33); the last group
is what the host and the transport do and see, inputs and outputs of a step (R33). -/
structure State where
  /-- DEVID (R28). -/
  devid : Half
  /-- MAXRS (R28). -/
  maxrs : Half
  /-- CTRL.RSEN, the one implemented bit of CTRL (R28). -/
  rsen : Bool
  /-- TIMEOUT (R28, R29). -/
  timeout : Word
  /-- A READ or XCHG request is running (R24). -/
  busy : Bool
  /-- Which (R25). -/
  op : CycleOp
  /-- The most attempts the cycle may make (R25). -/
  limit : Limit
  /-- The command number a candidate must carry (R25). -/
  expect : Byte
  /-- How many bytes of the command frame the transport has taken (R25). -/
  txi : Nat
  /-- The scanner's state (R23). -/
  st : ScanState
  /-- How many bytes of `buf` the candidate has filled (R21). -/
  cnt : Nat
  /-- Validation failures of the cycle that did not end it, the spec's `rs_cnt` (R27). -/
  rsCnt : Nat
  /-- The candidate buffer (R21). -/
  buf : Vector Byte 10
  /-- The replay queue, oldest first (R26). -/
  pend : List Byte
  /-- The command buffer (R27). -/
  cf : Vector Byte 19
  /-- The checksum accumulator (R27, R122). -/
  acc : Byte
  /-- The eleven wire constants (R10): no step changes them. -/
  wire : WireConstants
  /-- What the host does next. -/
  moves : List HostMove
  /-- The bytes on the PF channel (R9, R50). -/
  pf : List Byte
  /-- The transport's next answers (R33, R51). -/
  rx : List RxAnswer
  /-- How many answers were drawn from the free value (U3). -/
  freePulls : Nat
  /-- The TIMEOUT value handed over with the latest pull (R28, R29). -/
  handed : Option Word
  /-- How many more bytes the transport accepts; `none`: no end to it (R53, R296). -/
  txRoom : Option Nat
  /-- The bytes the transport has accepted (R53). -/
  tx : List Byte
  /-- The responses delivered on RSP (R9). -/
  rsp : List Response
  /-- The words CFG reads returned (R223). -/
  cfgOut : List Word
  deriving DecidableEq, Repr

/-- After reset (R34, R280): `busy = 0`, `SEEK_HEAD`, `cnt`, `pend`, `rs_cnt`, `txi` empty or zero, `DEVID = 0xFFFF`,
`RSEN = 0`, `MAXRS = 0`. What R34 leaves unspecified holds a value named in log entries 3 and 4 (DESIGN CHOICE); the wire
constants are the defaults R10 offers (PRESUMED, log entry 1); the channels are empty (DESIGN CHOICE, log entries 2, 5, 10
and 15). -/
def State.reset : State where
  devid := 0xFFFF
  maxrs := 0
  rsen := false
  timeout := 0
  busy := false
  op := .read
  limit := .unbounded
  expect := 0
  txi := 0
  st := .seekHead
  cnt := 0
  rsCnt := 0
  buf := Vector.replicate 10 0
  pend := []
  cf := Vector.replicate 19 0
  acc := 0
  wire := WireConstants.sds011
  moves := []
  pf := []
  rx := []
  freePulls := 0
  handed := none
  txRoom := none
  tx := []
  rsp := []
  cfgOut := []

end Sys2Proof.Machine
end

