-- ==== Sys2Proof/Machine/Flags.lean ====
section
/-! DEFINITION. The block has no flags and no condition codes (R35): the whole outcome of a request is the status code in
its response. This file holds those codes (R98). -/

namespace Sys2Proof.Machine

/-- The 3-bit code of an error (R98). -/
def ErrorKind.code : ErrorKind → BitVec 3
  | .timeout => 1
  | .checksumMismatch => 2
  | .malformedFrame => 3
  | .invalidParameter => 4
  | .desyncExceeded => 5
  | .notAcknowledged => 6

/-- The 3-bit status of a response (R98): 0 for `OK`. -/
def Response.status : Response → BitVec 3
  | .ok _ => 0
  | .error e => ErrorKind.code e

end Sys2Proof.Machine
end

