-- ==== Sys2Proof/Machine/Frames.lean ====
section
/-! DEFINITION. The two wire formats and the arithmetic on bytes they need: the constants of R11, the slices and the
two-byte fields of R14 to R16, the checksum generator (R120), the layouts of the command frame (R81) and of the data
frame (R88). -/

namespace Sys2Proof.Machine

/-- HEAD, the first byte of every frame (R11, R80). -/
def headByte : Byte := 0xAA

/-- TAIL, the last byte of every frame (R11, R80). -/
def tailByte : Byte := 0xAB

/-- CMD_MARK, byte 1 of every command frame (R11, R82). -/
def cmdMark : Byte := 0xB4

/-- DATA_CMD_NO, the query-reply command number (R11, R89). -/
def dataCmdNo : Byte := 0xC0

/-- `hi8(w) = w[15:8]` (R16). -/
def hi8 (w : Half) : Byte := w.extractLsb' 8 8

/-- `lo8(w) = w[7:0]` (R16). -/
def lo8 (w : Half) : Byte := w.extractLsb' 0 8

/-- `u16le(lo, hi) = lo + 256 * hi` (R16): least significant byte first (R55). -/
def u16le (lo hi : Byte) : Half := BitVec.ofNat 16 (lo.toNat + 256 * hi.toNat)

/-- The device id from its two bytes, most significant first (R56). -/
def idOf (hi lo : Byte) : Half := hi ++ lo

/-- `f[i..j]`, both ends inclusive (R15). -/
def slice (f : List Byte) (i j : Nat) : List Byte := (f.drop i).take (j + 1 - i)

/-- `zeros(n)` (R15, R85). -/
def zeros (n : Nat) : List Byte := List.replicate n 0

/-- The checksum generator: the integer sum of the bytes, mod 256 (R120). The one definition of the block (R127). -/
def checksum (s : List Byte) : Byte := BitVec.ofNat 8 (s.map BitVec.toNat).sum

/-- One step of the accumulator: 8-bit addition, the carry out of bit 7 dropped (R122). -/
def accumulate (acc b : Byte) : Byte := acc + b

/-- The command frame, offset by offset (R81). -/
def commandFrame (kindId dirByte arg : Byte) (id : Half) (ck : Byte) : Vector Byte 19 :=
  #v[headByte, cmdMark, kindId, dirByte, arg, 0, 0, 0, 0, 0, 0, 0, 0, 0, 0, hi8 id, lo8 id, ck, tailByte]

/-- The data frame, offset by offset (R88). -/
def dataFrame (cmdNo v1lo v1hi v2lo v2hi : Byte) (id : Half) (ck : Byte) : Vector Byte 10 :=
  #v[headByte, cmdNo, v1lo, v1hi, v2lo, v2hi, hi8 id, lo8 id, ck, tailByte]

/-- The range of a command frame the checksum covers: offsets 2..16 (R87, R121). -/
def commandRange (f : Vector Byte 19) : List Byte := slice f.toList 2 16

/-- The range of a data frame the checksum covers: offsets 2..7 (R91, R121). -/
def dataRange (f : List Byte) : List Byte := slice f 2 7

/-- `DataFrame(v1, v2, id, no)` of R157, for statements only: what the sensor does, no operation of the block. -/
def sensorFrame (v1 v2 id : Half) (no : Byte) : Vector Byte 10 :=
  dataFrame no (lo8 v1) (hi8 v1) (lo8 v2) (hi8 v2) id
    (checksum [lo8 v1, hi8 v1, lo8 v2, hi8 v2, hi8 id, lo8 id])

end Sys2Proof.Machine
end

