-- ==== Sys2Proof/Machine/Operands.lean ====
section
/-! DEFINITION. The operand forms: how a request's kind, direction and parameter become a command frame (41), and how a
byte sequence becomes two values (42). Pure functions: they read and write no state (R139, R159). -/

namespace Sys2Proof.Machine

/-- `DirByte(dir)` (R84). -/
def dirByte (w : WireConstants) : Direction → Byte
  | .read => w.readByte
  | .write => w.writeByte

/-- The thirteen bytes from KIND_ID to the end of the padding: `[kindId, dir, arg] ++ zeros(10)` (R132, R134, R136). -/
def bodyOf (kindId dir arg : Byte) : Vector Byte 13 :=
  #v[kindId, dir, arg] ++ (Vector.replicate 10 0 : Vector Byte 10)

/-- `Body` for SetReportMode (R132, R135). -/
def bodySetReportMode (w : WireConstants) (dir : Direction) (param : Byte) : Except ErrorKind (Vector Byte 13) :=
  if param.toNat > 1 then .error .invalidParameter
  else .ok (bodyOf w.reportModeId (dirByte w dir) (if param = 0 then w.activeByte else w.passiveByte))

/-- `Body` for Query: `[QUERY_ID] ++ zeros(12)`, whatever the direction and the parameter (R133). -/
def bodyQuery (w : WireConstants) : Except ErrorKind (Vector Byte 13) :=
  .ok (#v[w.queryId] ++ (Vector.replicate 12 0 : Vector Byte 12))

/-- `Body` for SetSleep (R134, R135). -/
def bodySetSleep (w : WireConstants) (dir : Direction) (param : Byte) : Except ErrorKind (Vector Byte 13) :=
  if param.toNat > 1 then .error .invalidParameter
  else .ok (bodyOf w.sleepId (dirByte w dir) (if param = 0 then w.sleepByte else w.workByte))

/-- `Body` for SetWorkPeriod (R136, R135). -/
def bodySetWorkPeriod (w : WireConstants) (dir : Direction) (param : Byte) : Except ErrorKind (Vector Byte 13) :=
  if param.toNat > 30 then .error .invalidParameter
  else .ok (bodyOf w.workPeriodId (dirByte w dir) param)

/-- `Body(kind, dir, param)` (R131). -/
def body (w : WireConstants) : Kind → Direction → Byte → Except ErrorKind (Vector Byte 13)
  | .setReportMode, dir, param => bodySetReportMode w dir param
  | .query, _, _ => bodyQuery w
  | .setSleep, dir, param => bodySetSleep w dir param
  | .setWorkPeriod, dir, param => bodySetWorkPeriod w dir param

/-- `Build(kind, dir, param, devid)` (R131). -/
def build (w : WireConstants) (kind : Kind) (dir : Direction) (param : Byte) (devid : Half) :
    Except ErrorKind (Vector Byte 19) :=
  match body w kind dir param with
  | .error e => .error e
  | .ok b =>
    let ids : Vector Byte 2 := #v[hi8 devid, lo8 devid]
    let ck := checksum (b.toList ++ ids.toList)
    .ok (#v[headByte, cmdMark] ++ b ++ ids ++ #v[ck, tailByte])

/-- `Parse(f)` (R151): length, then checksum, then tail; it tests neither offset 0 nor offset 1 (R155). -/
def parse (f : List Byte) : Except ErrorKind (Half × Half) :=
  if f.length ≠ 10 then .error .malformedFrame
  else if checksum (dataRange f) ≠ f.getD 8 0 then .error .checksumMismatch
  else if f.getD 9 0 ≠ tailByte then .error .malformedFrame
  else .ok (u16le (f.getD 2 0) (f.getD 3 0), u16le (f.getD 4 0) (f.getD 5 0))

/-- The command number the reply to a command carries (R206). -/
def replyNumber (w : WireConstants) (kind : Kind) : Byte :=
  if kind = .query then dataCmdNo else w.replyCmdNo

end Sys2Proof.Machine
end

