-- ==== Sys2Proof/Machine/Ops.lean ====
section
/-! DEFINITION. The named operations over the state: responses and the end of a request, in error or not (R178, R250);
the two streams (R51, R53, R172); the steps of a cycle (R173 to R177, R202); acceptance (R130, R150, R170, R201);
configuration access (R222, R223); reset (R280). -/

namespace Sys2Proof.Machine

/-- Deliver one response on RSP (R17). -/
def State.respond (s : State) (r : Response) : State := { s with rsp := s.rsp ++ [r] }

/-- `EndCycle()` (R178): back to the idle state of R31. -/
def State.endCycle (s : State) : State :=
  { s with busy := false, st := .seekHead, cnt := 0, pend := [], rsCnt := 0, txi := 0 }

/-- HOW A REQUEST ENDS IN AN ERROR, the nearest thing the block has to taking an exception (R250): one response with the
status and no payload, `EndCycle()` if a cycle was running, and nothing else; nothing is saved and control goes nowhere.
There is no return operation to stand beside it (R251). -/
def State.failRequest (s : State) (e : ErrorKind) : State :=
  if s.busy then (s.respond (.error e)).endCycle else s.respond (.error e)

/-- How a READ or XCHG cycle ends well: the response, then `EndCycle()` (R175). -/
def State.finishCycle (s : State) (p : Payload) : State := (s.respond (.ok p)).endCycle

/-- The accumulator after a checksum over `range` (R122). -/
def State.latchSum (s : State) (range : List Byte) : State := { s with acc := range.foldl accumulate 0 }

/-- `RxPull()` (R17, R51, R52): the transport's next answer. The value of TIMEOUT goes with the pull (R28, R29). Beyond
the script the answer is free (U3). -/
def State.rxPull (s : State) : RxAnswer × State :=
  match s.rx with
  | a :: rest => (a, { s with rx := rest, handed := some s.timeout })
  | [] => (Config.rxAnswer s.freePulls, { s with freePulls := s.freePulls + 1, handed := some s.timeout })

/-- `NextByte()` (R172): the replay queue first, then the transport. -/
def State.nextByte (s : State) : RxAnswer × State :=
  match s.pend with
  | b :: rest => (.byte b, { s with pend := rest })
  | [] => s.rxPull

/-- `TxPush(b)` (R17, R53): `none` when the transport accepts no more (R296). -/
def State.txPush (s : State) (b : Byte) : Option State :=
  match s.txRoom with
  | none => some { s with tx := s.tx ++ [b] }
  | some 0 => none
  | some (n + 1) => some { s with tx := s.tx ++ [b], txRoom := some n }

/-- The write step is enabled (R202). -/
abbrev State.Writing (s : State) : Prop := s.busy = true ∧ s.op = .xchg ∧ s.txi < 19

/-- The `SEEK_HEAD` step is enabled (R173). -/
abbrev State.Seeking (s : State) : Prop := s.busy = true ∧ s.st = .seekHead ∧ (s.op = .xchg → s.txi = 19)

/-- The `READ_BODY` step is enabled (R174). -/
abbrev State.ReadingBody (s : State) : Prop := s.busy = true ∧ s.st = .readBody

/-- The `VALIDATE` step is enabled (R175). -/
abbrev State.Validating (s : State) : Prop := s.busy = true ∧ s.st = .validate

/-- The write step of a command frame `f` (R202): push the byte at `txi`. Where it is not enabled, or the transport does
not accept, nothing happens (R53, R296; log entries 5 and 6). -/
def State.writeStep (s : State) (f : Vector Byte 19) : State :=
  if h : s.Writing then
    match s.txPush (f[s.txi]'h.2.2) with
    | some s' => { s' with txi := s.txi + 1 }
    | none => s
  else s

/-- `TimeoutExit()` (R177, R204). -/
def State.timeoutExit (s : State) : State :=
  match s.op with
  | .xchg => s.failRequest .notAcknowledged
  | .read => s.failRequest .timeout

/-- `limit != unbounded and rs_cnt >= limit` (R176). -/
def Limit.reached (l : Limit) (rsCnt : Nat) : Bool :=
  match l with
  | .unbounded => false
  | .atMost n => decide (n ≤ rsCnt)

/-- `Resync()` (R176) after the candidate `f`: its nine body bytes are scanned again, its head is dropped. -/
def State.resync (s : State) (f : Vector Byte 10) : State :=
  if s.limit.reached s.rsCnt then s.failRequest .desyncExceeded
  else { s with rsCnt := s.rsCnt + 1, pend := f.toList.drop 1, cnt := 0, st := .seekHead }

/-- The `SEEK_HEAD` step (R173); nothing where it is not enabled. -/
def State.seekHeadStep (s : State) : State :=
  if s.Seeking then
    match s.nextByte with
    | (.timeout, s') => s'.timeoutExit
    | (.byte b, s') =>
      if b = headByte then { s' with buf := s'.buf.setIfInBounds 0 b, cnt := 1, st := .readBody } else s'
  else s

/-- The `READ_BODY` step (R174); nothing where it is not enabled. -/
def State.readBodyStep (s : State) : State :=
  if s.ReadingBody then
    match s.nextByte with
    | (.timeout, s') => s'.timeoutExit
    | (.byte b, s') =>
      { s' with
        buf := s'.buf.setIfInBounds s'.cnt b, cnt := s'.cnt + 1,
        st := if s'.cnt + 1 = 10 then .validate else .readBody }
  else s

/-- The `VALIDATE` step of the candidate `f` (R175); nothing where it is not enabled. -/
def State.validateStep (s : State) (f : Vector Byte 10) : State :=
  if s.Validating then
    match parse f.toList with
    | .ok (v1, v2) =>
      if f[1] = s.expect then (s.latchSum (dataRange f.toList)).finishCycle (.reading f v1 v2)
      else (s.latchSum (dataRange f.toList)).resync f
    | .error _ => (s.latchSum (dataRange f.toList)).resync f
  else s

/-- A request or a configuration access is accepted only when `busy = 0`; otherwise it waits and nothing happens (R24,
R291, U10). -/
def State.whenIdle (s : State) (accepted : State → State) : State := if s.busy then s else accepted s

/-- Serve a BUILD request of `kind` (R130). -/
def State.serveBuild (s : State) (kind : Kind) (dir : Direction) (param : Byte) : State :=
  match build s.wire kind dir param s.devid with
  | .ok f => (s.latchSum (commandRange f)).respond (.ok (.commandFrame f))
  | .error e => s.failRequest e

/-- Serve a PARSE request (R150) of the bytes on PF. -/
def State.serveParse (s : State) : State :=
  let s' := if s.pf.length = 10 then s.latchSum (dataRange s.pf) else s
  match parse s.pf with
  | .ok (v1, v2) => s'.respond (.ok (.values v1 v2))
  | .error e => s'.failRequest e

/-- The limit of a READ cycle (R170). -/
def State.readLimit (s : State) : Limit := if s.rsen then .atMost s.maxrs.toNat else .unbounded

/-- Accept a READ request (R170). -/
def State.acceptRead (s : State) : State :=
  { s with
    busy := true, op := .read, txi := 0, limit := s.readLimit, expect := dataCmdNo,
    st := .seekHead, cnt := 0, pend := [], rsCnt := 0 }

/-- Accept an XCHG request of `kind` (R201): build, then begin to write. -/
def State.acceptExchange (s : State) (kind : Kind) (dir : Direction) (param : Byte) : State :=
  match build s.wire kind dir param s.devid with
  | .error e => s.failRequest e
  | .ok f =>
    { s.latchSum (commandRange f) with
      cf := f, busy := true, op := .xchg, txi := 0, limit := .atMost 0, expect := replyNumber s.wire kind,
      st := .seekHead, cnt := 0, pend := [], rsCnt := 0 }

/-- Write a configuration register (R222): bits not implemented are ignored (R221). -/
def State.writeConfig (s : State) (reg : ConfigReg) (value : Word) : State :=
  match reg with
  | .devid => { s with devid := value.extractLsb' 0 16 }
  | .maxrs => { s with maxrs := value.extractLsb' 0 16 }
  | .ctrl => { s with rsen := value.getLsbD 0 }
  | .timeout => { s with timeout := value }

/-- Read a configuration register (R223): bits not implemented read as 0 (R221). -/
def State.readConfig (s : State) (reg : ConfigReg) : Word :=
  match reg with
  | .devid => s.devid.zeroExtend 32
  | .maxrs => s.maxrs.zeroExtend 32
  | .ctrl => if s.rsen then 1 else 0
  | .timeout => s.timeout

/-- Return one word on the CFG channel (R223). -/
def State.returnConfig (s : State) (w : Word) : State := { s with cfgOut := s.cfgOut ++ [w] }

/-- The reset input (R280, R281, R282): every element of the block's state takes its reset value (R34); the wire
constants and everything outside the block stay as they are. -/
def State.applyReset (s : State) : State :=
  { State.reset with
    wire := s.wire, moves := s.moves, pf := s.pf, rx := s.rx, freePulls := s.freePulls, handed := s.handed,
    txRoom := s.txRoom, tx := s.tx, rsp := s.rsp, cfgOut := s.cfgOut }

end Sys2Proof.Machine
end

