-- ==== Sys2Proof/Machine/Build.lean ====
section
/-! DEFINITION. BUILD (rows BUILD.*, R130): build the command frame of the kind and answer with it, in one step. -/

namespace Sys2Proof.Machine

/-- BUILD.SetReportMode (R130, R132). -/
def execBuildSetReportMode (dir : Direction) (param : Byte) (s : State) : Host.Outcome State Fault Refusal :=
  .next (s.whenIdle fun s => s.serveBuild .setReportMode dir param)

/-- BUILD.Query (R130, R133). -/
def execBuildQuery (dir : Direction) (param : Byte) (s : State) : Host.Outcome State Fault Refusal :=
  .next (s.whenIdle fun s => s.serveBuild .query dir param)

/-- BUILD.SetSleep (R130, R134). -/
def execBuildSetSleep (dir : Direction) (param : Byte) (s : State) : Host.Outcome State Fault Refusal :=
  .next (s.whenIdle fun s => s.serveBuild .setSleep dir param)

/-- BUILD.SetWorkPeriod (R130, R136). -/
def execBuildSetWorkPeriod (dir : Direction) (param : Byte) (s : State) : Host.Outcome State Fault Refusal :=
  .next (s.whenIdle fun s => s.serveBuild .setWorkPeriod dir param)

end Sys2Proof.Machine
end

