-- ==== Sys2Proof/Machine/CommandFrame.lean ====
section
/-! DEFINITION. The command frames on TX (rows CMD.*): the write step (R202) of an exchange whose frame is this one. The
byte at `txi` is pushed; nineteen such steps push the frame in offset order (R53). Where the write step is not enabled the
block pushes nothing (R60, R208). -/

namespace Sys2Proof.Machine

/-- CMD.SetReportMode (R81, R132, R202). -/
def execCmdSetReportMode (d m : Byte) (id : Half) (ck : Byte) (s : State) : Host.Outcome State Fault Refusal :=
  .next (s.writeStep (commandFrame s.wire.reportModeId d m id ck))

/-- CMD.Query (R81, R133, R202). -/
def execCmdQuery (id : Half) (ck : Byte) (s : State) : Host.Outcome State Fault Refusal :=
  .next (s.writeStep (commandFrame s.wire.queryId 0 0 id ck))

/-- CMD.SetSleep (R81, R134, R202). -/
def execCmdSetSleep (d m : Byte) (id : Half) (ck : Byte) (s : State) : Host.Outcome State Fault Refusal :=
  .next (s.writeStep (commandFrame s.wire.sleepId d m id ck))

/-- CMD.SetWorkPeriod (R81, R136, R202). -/
def execCmdSetWorkPeriod (d : Byte) (t : BitVec 5) (id : Half) (ck : Byte) (s : State) : Host.Outcome State Fault Refusal :=
  .next (s.writeStep (commandFrame s.wire.workPeriodId d (t.zeroExtend 8) id ck))

end Sys2Proof.Machine
end

