-- ==== Sys2Proof/Machine/ConfigAccess.lean ====
section
/-! DEFINITION. Configuration access (rows CFGW and CFGR): accepted only when `busy = 0`, one step, no error (R222,
R223). -/

namespace Sys2Proof.Machine

/-- CFGW (R222): no response beyond the acceptance, no other state changes. -/
def execCfgw (reg : ConfigReg) (value : Word) (s : State) : Host.Outcome State Fault Refusal :=
  .next (s.whenIdle fun s => s.writeConfig reg value)

/-- CFGR (R223): returns the register's word, no side effect. -/
def execCfgr (reg : ConfigReg) (s : State) : Host.Outcome State Fault Refusal :=
  .next (s.whenIdle fun s => s.returnConfig (s.readConfig reg))

end Sys2Proof.Machine
end

