-- ==== Sys2Proof/Machine/DataFrame.lean ====
section
/-! DEFINITION. The data frames on RX (rows DATA.*): the VALIDATE step (R175) of a candidate that is this frame. Where the
step is not enabled nothing happens: the block looks at a frame only in a cycle (R70). -/

namespace Sys2Proof.Machine

/-- DATA.measurement (R88, R89, R175). -/
def execDataMeasurement (a b e g : Byte) (id : Half) (ck : Byte) (s : State) : Host.Outcome State Fault Refusal :=
  .next (s.validateStep (dataFrame dataCmdNo a b e g id ck))

/-- DATA.reply (R89, R175). -/
def execDataReply (n a b e g : Byte) (id : Half) (ck : Byte) (s : State) : Host.Outcome State Fault Refusal :=
  .next (s.validateStep (dataFrame n a b e g id ck))

end Sys2Proof.Machine
end

