-- ==== Sys2Proof/Machine/Exchange.lean ====
section
/-! DEFINITION. XCHG (rows XCHG.*, R200): acceptance and build (R201). The write steps (R202) and the single-frame cycle
(R203) follow, one event a step. -/

namespace Sys2Proof.Machine

/-- XCHG.SetReportMode (R201, R132). -/
def execXchgSetReportMode (dir : Direction) (param : Byte) (s : State) : Host.Outcome State Fault Refusal :=
  .next (s.whenIdle fun s => s.acceptExchange .setReportMode dir param)

/-- XCHG.Query (R201, R133). -/
def execXchgQuery (dir : Direction) (param : Byte) (s : State) : Host.Outcome State Fault Refusal :=
  .next (s.whenIdle fun s => s.acceptExchange .query dir param)

/-- XCHG.SetSleep (R201, R134). -/
def execXchgSetSleep (dir : Direction) (param : Byte) (s : State) : Host.Outcome State Fault Refusal :=
  .next (s.whenIdle fun s => s.acceptExchange .setSleep dir param)

/-- XCHG.SetWorkPeriod (R201, R136). -/
def execXchgSetWorkPeriod (dir : Direction) (param : Byte) (s : State) : Host.Outcome State Fault Refusal :=
  .next (s.whenIdle fun s => s.acceptExchange .setWorkPeriod dir param)

end Sys2Proof.Machine
end

