-- ==== Sys2Proof/Machine/Reader.lean ====
section
/-! DEFINITION. READ (R170): the acceptance of a read cycle. The steps of R173 to R175 follow, one event a step. -/

namespace Sys2Proof.Machine

/-- READ (R170); the word's other fields are ignored. -/
def execRead (_unusedHi : BitVec 3) (_unusedLo : Byte) (s : State) : Host.Outcome State Fault Refusal :=
  .next (s.whenIdle State.acceptRead)

end Sys2Proof.Machine
end

