-- ==== Sys2Proof/Machine/Reserved.lean ====
section
/-! DEFINITION. Reserved request words (rows RESERVED.*): answered `InvalidParameter`, and nothing else happens (R96,
U11). -/

namespace Sys2Proof.Machine

/-- RESERVED.op4to7 (R96). -/
def execReservedOp (_rest : BitVec 15) (s : State) : Host.Outcome State Fault Refusal :=
  .next (s.whenIdle fun s => s.failRequest .invalidParameter)

/-- RESERVED.bit8 (R96). -/
def execReservedBit8 (_hi : BitVec 7) (_lo : Byte) (s : State) : Host.Outcome State Fault Refusal :=
  .next (s.whenIdle fun s => s.failRequest .invalidParameter)

/-- RESERVED.bit9 (R96). -/
def execReservedBit9 (_hi : BitVec 6) (_bit8 : BitVec 1) (_lo : Byte) (s : State) : Host.Outcome State Fault Refusal :=
  .next (s.whenIdle fun s => s.failRequest .invalidParameter)

end Sys2Proof.Machine
end

