-- ==== Sys2Proof/Machine/Validator.lean ====
section
/-! DEFINITION. PARSE (R150): the frame validator on the bytes of PF. -/

namespace Sys2Proof.Machine

/-- PARSE (R150); the word's other fields are ignored. -/
def execParse (_unusedHi : BitVec 3) (_unusedLo : Byte) (s : State) : Host.Outcome State Fault Refusal :=
  .next (s.whenIdle State.serveParse)

end Sys2Proof.Machine
end

