-- ==== Sys2Proof/Machine/Dispatch.lean ====
section
/-! DEFINITION. The dispatch: one arm per row of spec/opcode_table.json, each a direct call of its meaning. -/

namespace Sys2Proof.Machine

def exec (i : Instr) (s : State) : Host.Outcome State Fault Refusal :=
  match i with
  | .cmdSetReportMode d m id ck => Sys2Proof.Machine.execCmdSetReportMode d m id ck s
  | .cmdQuery id ck => Sys2Proof.Machine.execCmdQuery id ck s
  | .cmdSetSleep d m id ck => Sys2Proof.Machine.execCmdSetSleep d m id ck s
  | .cmdSetWorkPeriod d t id ck => Sys2Proof.Machine.execCmdSetWorkPeriod d t id ck s
  | .dataMeasurement a b e g id ck => Sys2Proof.Machine.execDataMeasurement a b e g id ck s
  | .dataReply n a b e g id ck => Sys2Proof.Machine.execDataReply n a b e g id ck s
  | .buildSetReportMode dir param => Sys2Proof.Machine.execBuildSetReportMode dir param s
  | .buildQuery dir param => Sys2Proof.Machine.execBuildQuery dir param s
  | .buildSetSleep dir param => Sys2Proof.Machine.execBuildSetSleep dir param s
  | .buildSetWorkPeriod dir param => Sys2Proof.Machine.execBuildSetWorkPeriod dir param s
  | .xchgSetReportMode dir param => Sys2Proof.Machine.execXchgSetReportMode dir param s
  | .xchgQuery dir param => Sys2Proof.Machine.execXchgQuery dir param s
  | .xchgSetSleep dir param => Sys2Proof.Machine.execXchgSetSleep dir param s
  | .xchgSetWorkPeriod dir param => Sys2Proof.Machine.execXchgSetWorkPeriod dir param s
  | .parse hi lo => Sys2Proof.Machine.execParse hi lo s
  | .read hi lo => Sys2Proof.Machine.execRead hi lo s
  | .reservedOp rest => Sys2Proof.Machine.execReservedOp rest s
  | .reservedBit8 hi lo => Sys2Proof.Machine.execReservedBit8 hi lo s
  | .reservedBit9 hi b lo => Sys2Proof.Machine.execReservedBit9 hi b lo s
  | .cfgw reg value => Sys2Proof.Machine.execCfgw reg value s
  | .cfgr reg => Sys2Proof.Machine.execCfgr reg s

end Sys2Proof.Machine
end

