-- ==== Sys2Proof/WellFormed.lean ====
section
/-! DEFINITION. Which instructions are well formed: the command frames the block can emit (R81 to R87), the data frames
a row of the table stands for, and the reserved words in the row that decodes them. -/

namespace Sys2Proof

open Machine

/-- The checksum byte a command frame with these fields carries (R87). -/
def commandCk (kindId dirByte arg : Byte) (id : Half) : Byte :=
  checksum (commandRange (commandFrame kindId dirByte arg id 0))

/-- A direction byte is one of the two values of R84. -/
def isDirByte (w : WireConstants) (d : Byte) : Bool := d == w.readByte || d == w.writeByte

/-- What a row's operands must satisfy. Command frames: DIR and ARG are values R84 gives, the work time is at most 30
(R136), CK is the checksum (R87). DATA.reply: the command number is not that of DATA.measurement (R89). Reserved words:
none of the rows before it in the table stands for the same word (R102; log entry 8). -/
def wellFormed (w : WireConstants) : Instr → Bool
  | .cmdSetReportMode d m id ck =>
      isDirByte w d && (m == w.activeByte || m == w.passiveByte) && ck == commandCk w.reportModeId d m id
  | .cmdQuery id ck => ck == commandCk w.queryId 0 0 id
  | .cmdSetSleep d m id ck =>
      isDirByte w d && (m == w.sleepByte || m == w.workByte) && ck == commandCk w.sleepId d m id
  | .cmdSetWorkPeriod d t id ck =>
      isDirByte w d && decide (t.toNat ≤ 30) && ck == commandCk w.workPeriodId d (t.zeroExtend 8) id
  | .dataMeasurement _ _ _ _ _ _ => true
  | .dataReply n _ _ _ _ _ _ => n != dataCmdNo
  | .buildSetReportMode _ _ => true
  | .buildQuery _ _ => true
  | .buildSetSleep _ _ => true
  | .buildSetWorkPeriod _ _ => true
  | .xchgSetReportMode _ _ => true
  | .xchgQuery _ _ => true
  | .xchgSetSleep _ _ => true
  | .xchgSetWorkPeriod _ _ => true
  | .parse _ _ => true
  | .read _ _ => true
  | .reservedOp _ => true
  | .reservedBit8 hi _ => !hi.getLsbD 6
  | .reservedBit9 hi b _ => !hi.getLsbD 5 && b == 0
  | .cfgw _ _ => true
  | .cfgr _ => true

end Sys2Proof
end

