-- ==== Sys2Proof/Decode.lean ====
section
/-! DEFINITION. From the bits of each channel to an operation, total, rejecting by name; and the encoder. The channel
says which format its bits have (R94): command frames on TX, data frames on RX, request words on REQ, accesses on CFG. -/

namespace Sys2Proof

open Machine

/-- Why a frame is no row of the table. -/
inductive DecodeReject where
  /-- Not 19 bytes (command frame) or not 10 bytes (data frame), R80. -/
  | wrongLength
  /-- Offset 0 is not `0xAA`, R80. -/
  | badHead
  /-- Offset 1 of a command frame is not `0xB4`, R82. -/
  | badMark
  /-- Offsets 5..14 of a command frame are not all zero, R85. -/
  | badPadding
  /-- The last byte is not `0xAB`, R80. -/
  | badTail
  /-- No row of the four has this KIND_ID with these DIR and ARG, R83, R102. -/
  | noKind
  /-- `decodeTableWord` was given a width no row has. -/
  | noFormat
  deriving DecidableEq, Repr

/-- The bits of one row, as its channel carries them: a CF19 or DF10 frame (R80), a request word (R95), or the three
separate signals of the CFG channel (R221). -/
inductive Code where
  | commandFrame (bytes : List Byte)
  | dataFrame (bytes : List Byte)
  | request (w : Half)
  | config (write : Bool) (addr : BitVec 2) (data : Word)
  deriving DecidableEq, Repr

/-- Which of the four command rows has these KIND_ID, DIR and ARG (R83, R84, R102); where identifiers coincide, the first
in the table's order (log entry 8). -/
def decodeKind (w : WireConstants) (k d m : Byte) (id : Half) (ck : Byte) : Except DecodeReject Instr :=
  if k = w.reportModeId then .ok (.cmdSetReportMode d m id ck)
  else if k = w.queryId ∧ d = 0 ∧ m = 0 then .ok (.cmdQuery id ck)
  else if k = w.sleepId then .ok (.cmdSetSleep d m id ck)
  else if k = w.workPeriodId ∧ m.toNat < 32 then .ok (.cmdSetWorkPeriod d (m.extractLsb' 0 5) id ck)
  else .error .noKind

/-- The CF19 patterns of R102: the fixed bytes of R81, then the kind. -/
def decodeCommandFrame (w : WireConstants) (f : List Byte) : Except DecodeReject Instr :=
  match f with
  | [h, mk, k, d, m, p0, p1, p2, p3, p4, p5, p6, p7, p8, p9, ih, il, ck, t] =>
    if h ≠ headByte then .error .badHead
    else if mk ≠ cmdMark then .error .badMark
    else if [p0, p1, p2, p3, p4, p5, p6, p7, p8, p9] ≠ zeros 10 then .error .badPadding
    else if t ≠ tailByte then .error .badTail
    else decodeKind w k d m (idOf ih il) ck
  | _ => .error .wrongLength

/-- The DF10 patterns of R102. The checksum is a field of the pattern, not tested here: VALIDATE tests it (R175). -/
def decodeDataFrame (f : List Byte) : Except DecodeReject Instr :=
  match f with
  | [h, n, a, b, e, g, ih, il, ck, t] =>
    if h ≠ headByte then .error .badHead
    else if t ≠ tailByte then .error .badTail
    else if n = dataCmdNo then .ok (.dataMeasurement a b e g (idOf ih il) ck)
    else .ok (.dataReply n a b e g (idOf ih il) ck)
  | _ => .error .wrongLength

/-- The direction code of bit 10 (R97). -/
def decodeDir (b : BitVec 1) : Direction := if b = 0 then .read else .write

/-- The request word (R95, R96, R97). Every word is an operation: a legal row or a reserved one (R102); of several
reserved rows, the first in the table's order (log entry 8). -/
def decodeRequest (w : Half) : Instr :=
  let dir := decodeDir (w.extractLsb' 10 1)
  let param : Byte := w.extractLsb' 0 8
  if w.getLsbD 15 then .reservedOp (w.extractLsb' 0 15)
  else if w.getLsbD 8 then .reservedBit8 (w.extractLsb' 9 7) param
  else if w.getLsbD 9 then .reservedBit9 (w.extractLsb' 10 6) (w.extractLsb' 8 1) param
  else match (w.extractLsb' 13 2).toNat, (w.extractLsb' 11 2).toNat with
    | 0, 0 => .buildSetReportMode dir param
    | 0, 1 => .buildQuery dir param
    | 0, 2 => .buildSetSleep dir param
    | 0, _ => .buildSetWorkPeriod dir param
    | 1, _ => .parse (w.extractLsb' 10 3) param
    | 2, _ => .read (w.extractLsb' 10 3) param
    | _, 0 => .xchgSetReportMode dir param
    | _, 1 => .xchgQuery dir param
    | _, 2 => .xchgSetSleep dir param
    | _, _ => .xchgSetWorkPeriod dir param

/-- The register at a CFG address (R221). -/
def decodeReg (a : BitVec 2) : ConfigReg :=
  match a.toNat with
  | 0 => .devid
  | 1 => .maxrs
  | 2 => .ctrl
  | _ => .timeout

/-- A CFG access (R221): the read/write bit is 1 for a write; a read ignores the data signal. -/
def decodeConfig (write : Bool) (addr : BitVec 2) (data : Word) : Instr :=
  if write then .cfgw (decodeReg addr) data else .cfgr (decodeReg addr)

/-- The decoder, on the bits of any channel. -/
def decode (w : WireConstants) : Code → Except DecodeReject Instr
  | .commandFrame f => decodeCommandFrame w f
  | .dataFrame f => decodeDataFrame f
  | .request r => .ok (decodeRequest r)
  | .config wr a d => .ok (decodeConfig wr a d)

/-- The direction code (R97). -/
def encodeDir : Direction → BitVec 1
  | .read => 0
  | .write => 1

/-- The address of a register (R221). -/
def encodeReg : ConfigReg → BitVec 2
  | .devid => 0
  | .maxrs => 1
  | .ctrl => 2
  | .timeout => 3

/-- A BUILD or XCHG word: `op << 13 | kind << 11 | dir << 10 | param` (R95, R102). -/
def encodeRequest (op : BitVec 3) (kind : BitVec 2) (dir : Direction) (param : Byte) : Half :=
  op ++ kind ++ encodeDir dir ++ (0 : BitVec 2) ++ param

/-- The encoder: the bits of an instruction on its channel (R81, R88, R95, R221). A CFG read carries no data (R221); the
model writes zeros there. -/
def encode (w : WireConstants) : Instr → Code
  | .cmdSetReportMode d m id ck => .commandFrame (commandFrame w.reportModeId d m id ck).toList
  | .cmdQuery id ck => .commandFrame (commandFrame w.queryId 0 0 id ck).toList
  | .cmdSetSleep d m id ck => .commandFrame (commandFrame w.sleepId d m id ck).toList
  | .cmdSetWorkPeriod d t id ck => .commandFrame (commandFrame w.workPeriodId d (t.zeroExtend 8) id ck).toList
  | .dataMeasurement a b e g id ck => .dataFrame (dataFrame dataCmdNo a b e g id ck).toList
  | .dataReply n a b e g id ck => .dataFrame (dataFrame n a b e g id ck).toList
  | .buildSetReportMode dir p => .request (encodeRequest 0 0 dir p)
  | .buildQuery dir p => .request (encodeRequest 0 1 dir p)
  | .buildSetSleep dir p => .request (encodeRequest 0 2 dir p)
  | .buildSetWorkPeriod dir p => .request (encodeRequest 0 3 dir p)
  | .xchgSetReportMode dir p => .request (encodeRequest 3 0 dir p)
  | .xchgQuery dir p => .request (encodeRequest 3 1 dir p)
  | .xchgSetSleep dir p => .request (encodeRequest 3 2 dir p)
  | .xchgSetWorkPeriod dir p => .request (encodeRequest 3 3 dir p)
  | .parse hi lo => .request ((1 : BitVec 3) ++ hi ++ (0 : BitVec 2) ++ lo)
  | .read hi lo => .request ((2 : BitVec 3) ++ hi ++ (0 : BitVec 2) ++ lo)
  | .reservedOp r => .request ((1 : BitVec 1) ++ r)
  | .reservedBit8 hi lo => .request (hi ++ (1 : BitVec 1) ++ lo)
  | .reservedBit9 hi b lo => .request (hi ++ (1 : BitVec 1) ++ b ++ lo)
  | .cfgw r v => .config true (encodeReg r) v
  | .cfgr r => .config false (encodeReg r) 0

/-- The `n` bytes of a frame from its number, the byte at offset 0 in the most significant place (R81: "bit 151 first on
the wire", R102). -/
def bytesFirstHigh (n w : Nat) : List Byte :=
  (List.range n).map fun i => BitVec.ofNat 8 (w >>> (8 * (n - 1 - i)))

/-- The same with the byte at offset 0 in the least significant place. -/
def bytesFirstLow (n w : Nat) : List Byte :=
  (List.range n).map fun i => BitVec.ofNat 8 (w >>> (8 * i))

/-- The bytes of an `n`-byte frame given as a number: the numbering of R81 and R102, unless the least significant byte
is HEAD, which only the other numbering puts there (a frame ends in TAIL). Log entry 9. -/
def frameOfNumber (n w : Nat) : List Byte :=
  if BitVec.ofNat 8 w = headByte then bytesFirstLow n w else bytesFirstHigh n w

/-- The bits of a table row of `nbits` bits (in whole bytes), on the row's channel: 152 a command frame, 80 a data frame,
16 a request word, 35 (40 in whole bytes) a CFG access whose bit 34 is the read/write bit (R221). -/
def codeOfTableWord (nbits w : Nat) : Except DecodeReject Code :=
  if nbits = 152 then .ok (.commandFrame (frameOfNumber 19 w))
  else if nbits = 80 then .ok (.dataFrame (frameOfNumber 10 w))
  else if nbits = 16 then .ok (.request (BitVec.ofNat 16 w))
  else if nbits = 35 ∨ nbits = 40 then
    .ok (.config (w.testBit 34) (BitVec.ofNat 2 (w >>> 32)) (BitVec.ofNat 32 w))
  else .error .noFormat

/-- The instruction the decoder reads from a table word, with the wire constants the machine has after reset. -/
def decodeTableWord (nbits w : Nat) : Option Instr :=
  match codeOfTableWord nbits w with
  | .ok c => (decode WireConstants.sds011 c).toOption
  | .error _ => none

end Sys2Proof
end

