-- ==== Sys2Proof/Machine/Fetch.lean ====
section
/-! DEFINITION. What sequences the block (R22): where its next operation stands. Idle, it is what the host presents on REQ
or CFG; in the write phase it is the command frame in `cf`; in VALIDATE it is the data frame in `buf`. The other steps of
a cycle have no operation of their own. -/

namespace Sys2Proof.Machine

/-- What the next step is. -/
inductive Fetched where
  /-- An operation, run in the state given. -/
  | run (i : Instr) (s : State)
  /-- A step of the block with no row in the table, or no step at all; the state after it. -/
  | own (s : State)
  /-- A situation the model gives no meaning. -/
  | refuse (r : Refusal)
  deriving DecidableEq, Repr

/-- The block's own next event (R179). In the write phase the frame in `cf` is the operation, in VALIDATE the candidate in
`buf`; a content no row matches runs the same step on the bytes as they stand. The write phase is looked at first; in
reachable states no other step is enabled with it (R32 (g); log entry 17). When idle, or when no step is enabled, nothing
happens (R286, log entry 6). -/
def State.fetchOwn (s : State) : Fetched :=
  if s.Writing then
    match decodeCommandFrame s.wire s.cf.toList with
    | .ok i => .run i s
    | .error _ => .own (s.writeStep s.cf)
  else match s.st with
    | .seekHead => .own s.seekHeadStep
    | .readBody => .own s.readBodyStep
    | .validate =>
      if s.busy then
        match decodeDataFrame s.buf.toList with
        | .ok i => .run i s
        | .error _ => .own (s.validateStep s.buf)
      else .own s

/-- The next step of the whole: the host's next move, where the block can take it, or the block's own event. A request or
access presented while `busy = 1` stays where it is (R291). Reset acts at once (R281). Another agent on the transport is
refused (R290). -/
def State.fetch (s : State) : Fetched :=
  match s.moves with
  | [] => s.fetchOwn
  | .hold :: rest => ({ s with moves := rest } : State).fetchOwn
  | .reset :: rest => .own ({ s with moves := rest } : State).applyReset
  | .foreign :: _ => .refuse .transportShared
  | .request w pf :: rest =>
    if s.busy then s.fetchOwn else .run (decodeRequest w) { s with moves := rest, pf := pf }
  | .config wr a d :: rest =>
    if s.busy then s.fetchOwn else .run (decodeConfig wr a d) { s with moves := rest }

/-- The state that presents the operation `c` to the next step: a request or an access as the host's next move to the idle
block; a command frame in `cf` at the start of a write phase (R202); a data frame in `buf` as the candidate of a READ
cycle, or of an exchange that expects a reply, where its command number is not `0xC0` (R175, R206). -/
def State.presentCode (s : State) (c : Code) : State :=
  match c with
  | .request w => { s.endCycle with moves := .request w (zeros 10) :: s.moves }
  | .config wr a d => { s.endCycle with moves := .config wr a d :: s.moves }
  | .commandFrame f =>
    { s.endCycle with
      busy := true, op := .xchg, limit := .atMost 0, cf := Vector.ofFn fun i => f.getD i.val 0,
      moves := .hold :: s.moves }
  | .dataFrame f =>
    let query : Bool := f.getD 1 0 == dataCmdNo
    { s.endCycle with
      busy := true, op := if query then .read else .xchg, txi := if query then 0 else 19,
      limit := if query then s.readLimit else .atMost 0,
      expect := if query then dataCmdNo else s.wire.replyCmdNo,
      st := .validate, cnt := 10, buf := Vector.ofFn fun i => f.getD i.val 0, moves := .hold :: s.moves }

/-- The state that presents a table word to the next step; a width no row has changes nothing. -/
def State.presentWord (s : State) (nbits w : Nat) : State :=
  match codeOfTableWord nbits w with
  | .ok c => s.presentCode c
  | .error _ => s

end Sys2Proof.Machine
end

