-- ==== Sys2Proof/Machine/Step.lean ====
section
/-! DEFINITION. The step: one transfer event (R8). -/

namespace Sys2Proof.Machine

/-- One step of the machine: the operation that stands next, run by `exec`, or a step of the block's own. -/
def step (s : State) : Host.Outcome State Fault Refusal :=
  match s.fetch with
  | .run i s' => exec i s'
  | .own s' => .next s'
  | .refuse r => .refused r

/-- The state whose very next step runs the table word `w` of `nbits` bits (log entries 9 and 10). -/
def State.withFetchWord (s : State) (nbits w : Nat) : State := s.presentWord nbits w

end Sys2Proof.Machine
end

