-- ==== Sys2Proof/Safety.lean ====
section
/-! DEFINITION. What a safe run is, in the terms the statements use: the idle state (R31), the invariants of every
reachable state (R32, R203), what can be seen from outside (R26, R31, R268), and the closed form of a cycle (R181). -/

namespace Sys2Proof.Machine

/-- The sequencing state is the idle one (R31). -/
abbrev State.AtRest (s : State) : Prop :=
  s.st = .seekHead ∧ s.cnt = 0 ∧ s.pend = [] ∧ s.rsCnt = 0 ∧ s.txi = 0

/-- `limit` finite implies `rs_cnt <= limit` (R32 (f)). -/
def Limit.covers (l : Limit) (rsCnt : Nat) : Bool :=
  match l with
  | .unbounded => true
  | .atMost n => decide (rsCnt ≤ n)

/-- The invariants of R32, (a) to (g) in order, and the ranges of `cnt` (R21) and `txi` (R25). Of (g) the part that
speaks of the state is here; that no pull has been made is a statement about steps. -/
abbrev State.Inv (s : State) : Prop :=
  (s.busy = false → s.AtRest) ∧
  (s.st = .seekHead → s.cnt = 0) ∧
  (s.st = .readBody → 1 ≤ s.cnt ∧ s.cnt ≤ 9 ∧ s.buf[0] = headByte) ∧
  (s.st = .validate → s.cnt = 10 ∧ s.buf[0] = headByte ∧ s.pend = []) ∧
  (s.pend.length ≤ 9 ∧ (s.pend ≠ [] → s.cnt + s.pend.length ≤ 9 ∧ 1 ≤ s.rsCnt)) ∧
  s.limit.covers s.rsCnt = true ∧
  (s.op = .xchg → s.txi < 19 → s.st = .seekHead ∧ s.cnt = 0 ∧ s.pend = []) ∧
  (s.cnt ≤ 10 ∧ s.txi ≤ 19)

/-- A running exchange is a single-frame cycle (R203): its limit is 0, it has made no attempt and replays nothing. -/
abbrev State.SingleFrame (s : State) : Prop :=
  s.busy = true → s.op = .xchg → s.limit = .atMost 0 ∧ s.rsCnt = 0 ∧ s.pend = []

/-- Two states no one outside can tell apart now: the configuration registers (R28), the arguments, and everything on
the channels agree. Not among it: the scanner's state, `buf`, `pend`, `rs_cnt`, `cf`, `acc` and the latched parameters
(R26, R27, R268). -/
abbrev State.SameOutside (s t : State) : Prop :=
  s.devid = t.devid ∧ s.maxrs = t.maxrs ∧ s.rsen = t.rsen ∧ s.timeout = t.timeout ∧ s.busy = t.busy ∧
  s.wire = t.wire ∧ s.moves = t.moves ∧ s.pf = t.pf ∧ s.rx = t.rx ∧ s.freePulls = t.freePulls ∧
  s.handed = t.handed ∧ s.txRoom = t.txRoom ∧ s.tx = t.tx ∧ s.rsp = t.rsp ∧ s.cfgOut = t.cfgOut

/-- The positions that hold `0xAA`, in order: the heads `h_1 < h_2 < ...` of R181. -/
def headPositions (bytes : List Byte) : List Nat :=
  (List.range bytes.length).filter fun p => bytes.getD p 0 == headByte

/-- The ten bytes from position `p` (R181). -/
def candidateAt (bytes : List Byte) (p : Nat) : Vector Byte 10 := Vector.ofFn fun i => bytes.getD (p + i.val) 0

/-- `Good(p)` of R181: ten bytes are there, they parse, and they carry the expected command number. -/
def goodAt (expect : Byte) (bytes : List Byte) (p : Nat) : Bool :=
  decide (p + 10 ≤ bytes.length) && (parse (candidateAt bytes p).toList).toBool && bytes.getD (p + 1) 0 == expect

/-- The cycle stops at the head `p`, before which `k` heads were tried, by (a), (b) or (c) of R181. R181 writes (c) for
the first such head, `k = limit`; a head further on has `k > limit`. -/
def stopsAt (expect : Byte) (limit : Limit) (bytes : List Byte) (p k : Nat) : Bool :=
  decide (bytes.length < p + 10) || goodAt expect bytes p ||
    match limit with
    | .unbounded => false
    | .atMost N => decide (N ≤ k)

/-- How a cycle ends and how many bytes it consumes (R181). -/
inductive CycleEnd where
  /-- (a), or the heads ran out: every byte consumed, and `Timeout`. -/
  | timedOut
  /-- (b): `OK` with the ten bytes from `p`. -/
  | found (p : Nat)
  /-- (c): the candidate from `p` fails and no attempt is left. -/
  | desynced (p : Nat)
  deriving DecidableEq, Repr

/-- The closed form of a cycle over the bytes the transport holds, followed by a `Timeout` (R181). -/
def closedForm (expect : Byte) (limit : Limit) (bytes : List Byte) : CycleEnd :=
  match (headPositions bytes).zipIdx.find? fun pk => stopsAt expect limit bytes pk.1 pk.2 with
  | none => .timedOut
  | some (p, _) =>
    if bytes.length < p + 10 then .timedOut
    else if goodAt expect bytes p then .found p
    else .desynced p

/-- The response that ends the cycle of `op` (R175, R176, R177, R181). -/
def CycleEnd.response (op : CycleOp) (bytes : List Byte) : CycleEnd → Response
  | .timedOut =>
    match op with
    | .read => .error .timeout
    | .xchg => .error .notAcknowledged
  | .found p =>
    let f := candidateAt bytes p
    .ok (.reading f (u16le f[2] f[3]) (u16le f[4] f[5]))
  | .desynced _ => .error .desyncExceeded

/-- What the transport still holds after the cycle, of `bytes`, a `Timeout` and `later` answers (R181). -/
def CycleEnd.rest (bytes : List Byte) (later : List RxAnswer) : CycleEnd → List RxAnswer
  | .timedOut => later
  | .found p => (bytes.drop (p + 10)).map RxAnswer.byte ++ RxAnswer.timeout :: later
  | .desynced p => (bytes.drop (p + 10)).map RxAnswer.byte ++ RxAnswer.timeout :: later

end Sys2Proof.Machine
end

