-- ==== Sys2Proof/Certificates/Slice0/Obligations.lean ====
section
/-! DEFINITION. The statements for the provers. Each docstring names the rule or the section of the spec it formalises. The
frame contents, sums and values are written here from the rules, not through the meanings' own definitions. -/

namespace Sys2Proof.Statements

open Sys2Proof.Machine

/-- The mod-256 sum of R87: `(KIND_ID + DIR + ARG + ID_HI + ID_LO) mod 256`. -/
def commandSum (k d m : Byte) (id : Half) : Byte := k + d + m + id.extractLsb' 8 8 + id.extractLsb' 0 8

/-- The nineteen bytes of R81 with the checksum of R87. -/
def wireFrame (k d m : Byte) (id : Half) : Vector Byte 19 :=
  #v[0xAA, 0xB4, k, d, m, 0, 0, 0, 0, 0, 0, 0, 0, 0, 0, id.extractLsb' 8 8, id.extractLsb' 0 8,
    commandSum k d m id, 0xAB]

/-- The ten bytes of R88. -/
def replyFrame (n a b e g : Byte) (id : Half) (ck : Byte) : Vector Byte 10 :=
  #v[0xAA, n, a, b, e, g, id.extractLsb' 8 8, id.extractLsb' 0 8, ck, 0xAB]

/-- The mod-256 sum of R91 over a frame's two values and its device id. -/
def replySum (a b e g : Byte) (id : Half) : Byte := a + b + e + g + id.extractLsb' 8 8 + id.extractLsb' 0 8

/-- `lo + 256 * hi` (R16). -/
def little (lo hi : Byte) : Half := BitVec.ofNat 16 (lo.toNat + 256 * hi.toNat)

/-- `DirByte` (R84). -/
def onWire (w : WireConstants) : Direction → Byte
  | .read => w.readByte
  | .write => w.writeByte

/-- The byte a two-valued parameter selects (R84, R97). -/
def chosen (param ifZero ifOne : Byte) : Byte := if param = 0 then ifZero else ifOne

/-- A request answered with an error at acceptance, and nothing else (R130, R201, R96). -/
def answeredWith (s : State) (e : ErrorKind) : State := { s with rsp := s.rsp ++ [.error e] }

/-- A BUILD request answered with the frame of these three bytes and the id in DEVID (R130). That the accumulator keeps
the sum of its range is the model's choice (log entry 12, DEDUCED). -/
def builtFrame (s : State) (k d m : Byte) : State :=
  { s with acc := commandSum k d m s.devid, rsp := s.rsp ++ [.ok (.commandFrame (wireFrame k d m s.devid))] }

/-- An exchange accepted (R201) with the frame of these three bytes and the id in DEVID. That the accumulator keeps the
sum of its range is the model's choice (log entry 12, DEDUCED). -/
def exchangeBegun (s : State) (k d m expect : Byte) : State :=
  { s with
    acc := commandSum k d m s.devid, cf := wireFrame k d m s.devid, busy := true, op := .xchg, txi := 0,
    limit := .atMost 0, expect := expect, st := .seekHead, cnt := 0, pend := [], rsCnt := 0 }

/-- A cycle ended with a response: the idle state of R31 (R178). -/
def cycleEnded (s : State) (r : Response) : State :=
  { s with rsp := s.rsp ++ [r], busy := false, st := .seekHead, cnt := 0, pend := [], rsCnt := 0, txi := 0 }

/-- The status a `Timeout` answer ends the cycle of `op` with (R177, R204). -/
def timeoutStatus : CycleOp → ErrorKind
  | .read => .timeout
  | .xchg => .notAcknowledged

/-- A candidate failed and an attempt is left (R176): its nine body bytes are replayed. -/
def resynchronized (s : State) (body : List Byte) : State :=
  { s with rsCnt := s.rsCnt + 1, pend := body, cnt := 0, st := .seekHead }

/-- A candidate failed (R176, its bound written out): with `limit = unbounded` the search resumes; with `limit = N` it
resumes while `rs_cnt < N`, and from `rs_cnt = N` on the cycle ends with `DesyncExceeded`. -/
def candidateFailed (s : State) (body : List Byte) : State :=
  match s.limit with
  | .unbounded => resynchronized s body
  | .atMost N => if N ≤ s.rsCnt then cycleEnded s (.error .desyncExceeded) else resynchronized s body

/-- The transport has taken one more byte (R53, R202). -/
def pushed (s : State) (b : Byte) : State :=
  { s with tx := s.tx ++ [b], txi := s.txi + 1, txRoom := s.txRoom.map (· - 1) }

/-- It is the block's turn: the host presents nothing, or something that must wait because a request runs (R291). -/
def blockTurn (s : State) : Bool :=
  match s.moves with
  | [] => true
  | .request _ _ :: _ => s.busy
  | .config _ _ _ :: _ => s.busy
  | _ => false

/-- The operations the host presents: request words and configuration accesses (R95, R221). -/
def isPresented : Instr → Bool
  | .cmdSetReportMode _ _ _ _ => false
  | .cmdQuery _ _ => false
  | .cmdSetSleep _ _ _ _ => false
  | .cmdSetWorkPeriod _ _ _ _ => false
  | .dataMeasurement _ _ _ _ _ _ => false
  | .dataReply _ _ _ _ _ _ _ => false
  | .buildSetReportMode _ _ => true
  | .buildQuery _ _ => true
  | .buildSetSleep _ _ => true
  | .buildSetWorkPeriod _ _ => true
  | .xchgSetReportMode _ _ => true
  | .xchgQuery _ _ => true
  | .xchgSetSleep _ _ => true
  | .xchgSetWorkPeriod _ _ => true
  | .parse _ _ => true
  | .read _ _ => true
  | .reservedOp _ => true
  | .reservedBit8 _ _ => true
  | .reservedBit9 _ _ _ => true
  | .cfgw _ _ => true
  | .cfgr _ => true

/-- The four command frames on TX (R102). -/
def isCommandFrame : Instr → Bool
  | .cmdSetReportMode _ _ _ _ => true
  | .cmdQuery _ _ => true
  | .cmdSetSleep _ _ _ _ => true
  | .cmdSetWorkPeriod _ _ _ _ => true
  | _ => false

/-- The two data frames on RX (R102). -/
def isDataFrame : Instr → Bool
  | .dataMeasurement _ _ _ _ _ _ => true
  | .dataReply _ _ _ _ _ _ _ => true
  | _ => false

/-- A write of a configuration register (R222). -/
def isConfigWrite : Instr → Bool
  | .cfgw _ _ => true
  | _ => false

/-- The status codes with which R241 lets an operation be answered in the step that accepts it. The answers of READ, and
of XCHG but for `InvalidParameter`, come later, in the cycle. -/
def statusesAtAcceptance : Instr → List (BitVec 3)
  | .cmdSetReportMode _ _ _ _ => []
  | .cmdQuery _ _ => []
  | .cmdSetSleep _ _ _ _ => []
  | .cmdSetWorkPeriod _ _ _ _ => []
  | .dataMeasurement _ _ _ _ _ _ => []
  | .dataReply _ _ _ _ _ _ _ => []
  | .buildSetReportMode _ _ => [0, 4]
  | .buildQuery _ _ => [0]
  | .buildSetSleep _ _ => [0, 4]
  | .buildSetWorkPeriod _ _ => [0, 4]
  | .xchgSetReportMode _ _ => [4]
  | .xchgQuery _ _ => []
  | .xchgSetSleep _ _ => [4]
  | .xchgSetWorkPeriod _ _ => [4]
  | .parse _ _ => [0, 2, 3]
  | .read _ _ => []
  | .reservedOp _ => [4]
  | .reservedBit8 _ _ => [4]
  | .reservedBit9 _ _ _ => [4]
  | .cfgw _ _ => []
  | .cfgr _ => []

/-- The status codes with which R241 lets a running cycle end. -/
def statusesInCycle : CycleOp → List (BitVec 3)
  | .read => [0, 1, 5]
  | .xchg => [0, 5, 6]

/-- The XCHG operation of a kind (R102). -/
def exchangeOf (kind : Kind) (dir : Direction) (param : Byte) : Instr :=
  match kind with
  | .setReportMode => .xchgSetReportMode dir param
  | .query => .xchgQuery dir param
  | .setSleep => .xchgSetSleep dir param
  | .setWorkPeriod => .xchgSetWorkPeriod dir param

/-- The BUILD operation of a kind (R102). -/
def buildOf (kind : Kind) (dir : Direction) (param : Byte) : Instr :=
  match kind with
  | .setReportMode => .buildSetReportMode dir param
  | .query => .buildQuery dir param
  | .setSleep => .buildSetSleep dir param
  | .setWorkPeriod => .buildSetWorkPeriod dir param

/-- The kind of a code: 0 SetReportMode, 1 Query, 2 SetSleep, 3 SetWorkPeriod (R97). -/
def kindOfCode (n : Nat) : Kind :=
  if n = 0 then .setReportMode else if n = 1 then .query else if n = 2 then .setSleep else .setWorkPeriod

/-- The direction of a code: 0 READ, 1 WRITE (R97). -/
def directionOfCode (n : Nat) : Direction := if n = 0 then .read else .write

/-- The 32 bits a register returns after `value` was written to it (R221): bits not implemented read as 0. -/
def implemented (r : ConfigReg) (value : Word) : Word :=
  match r with
  | .devid => value &&& 0x0000FFFF
  | .maxrs => value &&& 0x0000FFFF
  | .ctrl => value &&& 0x00000001
  | .timeout => value

end Sys2Proof.Statements

open Sys2Proof Sys2Proof.Machine Sys2Proof.Statements

/-! ## Encoding -/

/-- 30_encoding.md sections 2, 3, 5 and 45_config.md: for every well-formed instruction but the four command frames,
decoding what the encoder writes gives it back. -/
def Obligations.DecodeOfEncodeGivesItBack : Prop :=
  ∀ (w : WireConstants) (i : Instr), wellFormed w i = true → isCommandFrame i = false →
    decode w (encode w i) = .ok i

/-- 30_encoding.md section 7 (R102: the four command rows are told apart "by KIND_ID alone, given values for the four
identifiers"): the same for the command frames, where the four identifiers differ. R10 does not say that they do; it is
the premise here. -/
def Obligations.DecodeOfEncodeGivesCommandFrameBack : Prop :=
  ∀ (w : WireConstants) (i : Instr), w.KindIdsDistinct → wellFormed w i = true → isCommandFrame i = true →
    decode w (encode w i) = .ok i

/-- 30_encoding.md section 7: what decodes to an instruction is, bit for bit, that instruction's encoding, whatever the
wire constants; a CFG read's data signal is the one exception, since the host supplies none (R221). -/
def Obligations.EncodeOfDecodeGivesBitsBack : Prop :=
  ∀ (w : WireConstants) (c : Code) (i : Instr), decode w c = .ok i →
    (∀ a d, c = .config false a d → d = 0) → encode w i = c

/-- 30_encoding.md section 7 (R102: "Every 16-bit word matches exactly one legal row or one or more reserved rows"): every
request word decodes to a well-formed operation, which is a reserved one exactly when bit 15, 9 or 8 is set. -/
def Obligations.EveryRequestWordIsAnOperation : Prop :=
  ∀ (w : WireConstants) (r : Half), wellFormed w (decodeRequest r) = true ∧
    (((∃ x, decodeRequest r = .reservedOp x) ∨ (∃ x y, decodeRequest r = .reservedBit8 x y) ∨
        (∃ x y z, decodeRequest r = .reservedBit9 x y z)) ↔
      (r.getLsbD 15 = true ∨ r.getLsbD 9 = true ∨ r.getLsbD 8 = true))

/-- 95_test_vectors.md: eleven words written out from the encodings decode to the operations they stand for. How a frame or
a CFG access is numbered as one word is the model's choice (log entry 9, DEDUCED), and so are the wire constants that name
the kind of the command frame (log entry 1, PRESUMED). -/
def Obligations.TableWordsDecode : Prop :=
  decodeTableWord 16 0x1C1E = some (.buildSetWorkPeriod .write 30) ∧
  decodeTableWord 16 0x0CC8 = some (.buildQuery .write 200) ∧
  decodeTableWord 16 0x7401 = some (.xchgSetSleep .write 1) ∧
  decodeTableWord 16 0x2000 = some (.parse 0 0) ∧
  decodeTableWord 16 0x4000 = some (.read 0 0) ∧
  decodeTableWord 16 0xA000 = some (.reservedOp 0x2000) ∧
  decodeTableWord 80 0xAAC013005400FFFF65AB = some (.dataMeasurement 0x13 0x00 0x54 0x00 0xFFFF 0x65) ∧
  decodeTableWord 80 0xAAC506010100A16009AB = some (.dataReply 0xC5 0x06 0x01 0x01 0x00 0xA160 0x09) ∧
  decodeTableWord 152 0xAAB408010500000000000000000000A1600FAB =
    some (.cmdSetWorkPeriod 0x01 5 0xA160 0x0F) ∧
  decodeTableWord 40 0x40000A160 = some (.cfgw .devid 0xA160) ∧
  decodeTableWord 40 0x300000000 = some (.cfgr .timeout)

/-! ## The step and the operation it runs -/

/-- 10_state.md section 2 (R22) and the model's log entry 7: where an operation stands next, the step is its meaning. On
REQ and CFG in the idle block, with the host's move taken and PF latched; in `cf` in the write phase; in `buf` in
VALIDATE. A `hold` of the host changes nothing but that it is used up. -/
def Obligations.StepRunsDecodedInstruction : Prop :=
  ∀ s : State,
    (∀ w pf rest, s.moves = .request w pf :: rest → s.busy = false →
      step s = exec (decodeRequest w) { s with moves := rest, pf := pf }) ∧
    (∀ wr a d rest, s.moves = .config wr a d :: rest → s.busy = false →
      step s = exec (decodeConfig wr a d) { s with moves := rest }) ∧
    (∀ i, blockTurn s = true → s.Writing → decode s.wire (.commandFrame s.cf.toList) = .ok i →
      step s = exec i s) ∧
    (∀ i, blockTurn s = true → ¬ s.Writing → s.Validating → decode s.wire (.dataFrame s.buf.toList) = .ok i →
      step s = exec i s) ∧
    (∀ rest, s.moves = .hold :: rest → blockTurn { s with moves := rest } = true →
      step s = step { s with moves := rest })

/-- 60_exceptions.md section 3 (R252, "No request can make the block fault, hang by itself, or enter an undefined state"):
every operation has a next state in every state, and every step has one, but where another agent uses the transport, which
is refused (R290). That there is a next state, an unchanged one, also where the spec has no step enabled (a stalled
transport, R296 and U7; a request while busy, U10; a frame row outside its phase; the idle block) is the model's choice (log
entries 5 and 6, DESIGN CHOICE); R252 does not give it. -/
def Obligations.NoRequestMakesTheBlockFault : Prop :=
  (∀ (i : Instr) (s : State), ∃ t, exec i s = .next t) ∧
  (∀ s : State, (∀ rest, s.moves ≠ .foreign :: rest) → ∃ t, step s = .next t) ∧
  (∀ (s : State) (rest : List HostMove), s.moves = .foreign :: rest → step s = .refused .transportShared)

/-- R291: while `busy = 1` a request or an access presented to `exec` changes nothing, and a step leaves it presented. That
waiting is shown as a step that changes nothing of it is the model's choice (log entry 6, DESIGN CHOICE). -/
def Obligations.RequestsWaitWhileBusy : Prop :=
  (∀ (i : Instr) (s : State), s.busy = true → isPresented i = true → exec i s = .next s) ∧
  (∀ (s : State), s.busy = true → s.moves ≠ [] → blockTurn s = true →
    ∃ t, step s = .next t ∧ t.moves = s.moves ∧ t.pf = s.pf ∧ t.cfgOut = s.cfgOut ∧
      t.devid = s.devid ∧ t.maxrs = s.maxrs ∧ t.rsen = s.rsen ∧ t.timeout = s.timeout)

/-! ## BUILD (41_command_builder.md) -/

/-- R132, R133, R134, R136 on the pure function of R131: the frame of each kind, and the parameters it refuses. -/
def Obligations.BuildReturnsTheFrameOfItsKind : Prop :=
  ∀ (w : WireConstants) (dir : Direction) (p : Byte) (id : Half),
    (p.toNat ≤ 1 → build w .setReportMode dir p id =
      .ok (wireFrame w.reportModeId (onWire w dir) (chosen p w.activeByte w.passiveByte) id)) ∧
    (1 < p.toNat → build w .setReportMode dir p id = .error .invalidParameter) ∧
    build w .query dir p id = .ok (wireFrame w.queryId 0 0 id) ∧
    (p.toNat ≤ 1 → build w .setSleep dir p id =
      .ok (wireFrame w.sleepId (onWire w dir) (chosen p w.sleepByte w.workByte) id)) ∧
    (1 < p.toNat → build w .setSleep dir p id = .error .invalidParameter) ∧
    (p.toNat ≤ 30 → build w .setWorkPeriod dir p id = .ok (wireFrame w.workPeriodId (onWire w dir) p id)) ∧
    (30 < p.toNat → build w .setWorkPeriod dir p id = .error .invalidParameter)

/-- 41_command_builder.md sections 1 and 2 (R130, R132). With a parameter of 0 or 1 the block answers the frame; with any
other, `InvalidParameter` and nothing else. What the accumulator then holds is the model's choice (log entry 12). -/
def Obligations.BuildSetReportModeAnswersFrame : Prop :=
  ∀ (dir : Direction) (p : Byte) (s : State), s.busy = false →
    (p.toNat ≤ 1 → exec (.buildSetReportMode dir p) s =
      .next (builtFrame s s.wire.reportModeId (onWire s.wire dir)
        (chosen p s.wire.activeByte s.wire.passiveByte))) ∧
    (1 < p.toNat → exec (.buildSetReportMode dir p) s = .next (answeredWith s .invalidParameter))

/-- 41_command_builder.md sections 1 and 2 (R130, R133). The same frame for every direction and every parameter. What the
accumulator then holds is the model's choice (log entry 12). -/
def Obligations.BuildQueryAnswersFrame : Prop :=
  ∀ (dir : Direction) (p : Byte) (s : State), s.busy = false →
    exec (.buildQuery dir p) s = .next (builtFrame s s.wire.queryId 0 0)

/-- 41_command_builder.md sections 1 and 2 (R130, R134). What the accumulator holds after a frame is the model's choice
(log entry 12). -/
def Obligations.BuildSetSleepAnswersFrame : Prop :=
  ∀ (dir : Direction) (p : Byte) (s : State), s.busy = false →
    (p.toNat ≤ 1 → exec (.buildSetSleep dir p) s =
      .next (builtFrame s s.wire.sleepId (onWire s.wire dir) (chosen p s.wire.sleepByte s.wire.workByte))) ∧
    (1 < p.toNat → exec (.buildSetSleep dir p) s = .next (answeredWith s .invalidParameter))

/-- 41_command_builder.md sections 1 and 2 (R130, R136). What the accumulator holds after a frame is the model's choice
(log entry 12). -/
def Obligations.BuildSetWorkPeriodAnswersFrame : Prop :=
  ∀ (dir : Direction) (p : Byte) (s : State), s.busy = false →
    (p.toNat ≤ 30 → exec (.buildSetWorkPeriod dir p) s =
      .next (builtFrame s s.wire.workPeriodId (onWire s.wire dir) p)) ∧
    (30 < p.toNat → exec (.buildSetWorkPeriod dir p) s = .next (answeredWith s .invalidParameter))

/-- R138: what holds of every frame the builder returns. -/
def Obligations.BuiltFramesAreWellShaped : Prop :=
  ∀ (w : WireConstants) (kind : Kind) (dir : Direction) (p : Byte) (id : Half) (f : Vector Byte 19),
    build w kind dir p id = .ok f →
      f[0] = 0xAA ∧ f[1] = 0xB4 ∧ f[18] = 0xAB ∧
      f[17].toNat = ((slice f.toList 2 16).map BitVec.toNat).sum % 256 ∧
      (∀ i : Fin 19, 5 ≤ i.val → i.val ≤ 14 → f[i] = 0) ∧
      f[15] = id.extractLsb' 8 8 ∧ f[16] = id.extractLsb' 0 8

/-- R135: the builder raises `InvalidParameter` in exactly these cases, and no other error. -/
def Obligations.InvalidParameterExactlyWhenOutOfRange : Prop :=
  ∀ (w : WireConstants) (kind : Kind) (dir : Direction) (p : Byte) (id : Half) (e : ErrorKind),
    build w kind dir p id = .error e ↔
      (e = .invalidParameter ∧
        ((kind = .setWorkPeriod ∧ 30 < p.toNat) ∨ (kind = .setReportMode ∧ 1 < p.toNat) ∨
          (kind = .setSleep ∧ 1 < p.toNat)))

/-! ## XCHG (44_exchange.md) -/

/-- 44_exchange.md (R201): acceptance of an exchange of each kind in the idle block: the frame is built into `cf` and the
write phase begins with limit 0 and the expected command number of R206; an illegal parameter is answered
`InvalidParameter` and nothing else happens. What the accumulator holds after acceptance is the model's choice (log
entry 12). -/
def Obligations.ExchangeAcceptedWithItsFrame : Prop :=
  ∀ (dir : Direction) (p : Byte) (s : State), s.busy = false →
    (p.toNat ≤ 1 → exec (.xchgSetReportMode dir p) s =
      .next (exchangeBegun s s.wire.reportModeId (onWire s.wire dir)
        (chosen p s.wire.activeByte s.wire.passiveByte) s.wire.replyCmdNo)) ∧
    (1 < p.toNat → exec (.xchgSetReportMode dir p) s = .next (answeredWith s .invalidParameter)) ∧
    exec (.xchgQuery dir p) s = .next (exchangeBegun s s.wire.queryId 0 0 0xC0) ∧
    (p.toNat ≤ 1 → exec (.xchgSetSleep dir p) s =
      .next (exchangeBegun s s.wire.sleepId (onWire s.wire dir)
        (chosen p s.wire.sleepByte s.wire.workByte) s.wire.replyCmdNo)) ∧
    (1 < p.toNat → exec (.xchgSetSleep dir p) s = .next (answeredWith s .invalidParameter)) ∧
    (p.toNat ≤ 30 → exec (.xchgSetWorkPeriod dir p) s =
      .next (exchangeBegun s s.wire.workPeriodId (onWire s.wire dir) p s.wire.replyCmdNo)) ∧
    (30 < p.toNat → exec (.xchgSetWorkPeriod dir p) s = .next (answeredWith s .invalidParameter))

/-- 44_exchange.md section with R202, for the four command frames: in the write phase, with a transport that accepts, one
byte is pushed, the one at `txi` of the frame of R81, and `txi` moves on; nothing else changes. R202 pushes `cf[txi]`; that
the row pushes its own byte, also where `cf` holds something else, is the model's choice (log entry 7, DEDUCED). A
transport that accepts no more is in StalledTransportLeavesExchangeStuck. -/
def Obligations.CommandFramesPushTheirNextByte : Prop :=
  ∀ (s : State) (d m ck : Byte) (t : BitVec 5) (id : Half), s.Writing → s.txRoom ≠ some 0 →
    (exec (.cmdSetReportMode d m id ck) s =
      .next (pushed s ([0xAA, 0xB4, s.wire.reportModeId, d, m, 0, 0, 0, 0, 0, 0, 0, 0, 0, 0,
        id.extractLsb' 8 8, id.extractLsb' 0 8, ck, 0xAB].getD s.txi 0))) ∧
    (exec (.cmdQuery id ck) s =
      .next (pushed s ([0xAA, 0xB4, s.wire.queryId, 0, 0, 0, 0, 0, 0, 0, 0, 0, 0, 0, 0,
        id.extractLsb' 8 8, id.extractLsb' 0 8, ck, 0xAB].getD s.txi 0))) ∧
    (exec (.cmdSetSleep d m id ck) s =
      .next (pushed s ([0xAA, 0xB4, s.wire.sleepId, d, m, 0, 0, 0, 0, 0, 0, 0, 0, 0, 0,
        id.extractLsb' 8 8, id.extractLsb' 0 8, ck, 0xAB].getD s.txi 0))) ∧
    (exec (.cmdSetWorkPeriod d t id ck) s =
      .next (pushed s ([0xAA, 0xB4, s.wire.workPeriodId, d, (0 : BitVec 3) ++ t, 0, 0, 0, 0, 0, 0, 0, 0, 0, 0,
        id.extractLsb' 8 8, id.extractLsb' 0 8, ck, 0xAB].getD s.txi 0)))

/-- 20_memory.md (R60) and 44_exchange.md (R208): outside the write phase a command frame changes nothing: the block writes
nothing between frames. Log entry 6 is the model's form of it. -/
def Obligations.CommandFramesWaitOutsideWritePhase : Prop :=
  ∀ (i : Instr) (s : State), isCommandFrame i = true → ¬ s.Writing → exec i s = .next s

/-- 20_memory.md (R70, "The block pulls from RX only inside a READ or XCHG cycle") and 43_stream_reader.md (R175): where
VALIDATE is not enabled a data frame changes nothing: the block looks at a frame only in a cycle. Log entry 6 is the
model's form of it. -/
def Obligations.DataFramesWaitOutsideValidate : Prop :=
  ∀ (i : Instr) (s : State), isDataFrame i = true → ¬ s.Validating → exec i s = .next s

/-- 70_reset_and_hazards.md section 3 (R296): a transport that stops accepting leaves the exchange in its write phase for ever: no number of steps changes
anything, no response is delivered, no byte is pulled. That steps which change nothing stand for the stuck state is the
model's choice (log entry 5, DESIGN CHOICE). -/
def Obligations.StalledTransportLeavesExchangeStuck : Prop :=
  ∀ (s : State) (n : Nat), s.Writing → s.txRoom = some 0 → blockTurn s = true →
    Sys2Proof.core.run n s = .next s

/-- 44_exchange.md (R202, "Nineteen such steps push cf[0] through cf[18] in order") and 20_memory.md (R53): with room for
nineteen bytes, nineteen steps push `cf` in offset order, with nothing in between, and change nothing else. -/
def Obligations.NineteenWriteStepsPushTheCommand : Prop :=
  ∀ s : State, s.busy = true → s.op = .xchg → s.txi = 0 → blockTurn s = true →
    (∀ n, s.txRoom = some n → 19 ≤ n) →
    Sys2Proof.core.run 19 s =
      .next { s with tx := s.tx ++ s.cf.toList, txi := 19, txRoom := s.txRoom.map (· - 19) }

/-- 44_exchange.md (R208): no step pulls while the command is being written, no step pushes at any other time, and no second
exchange begins while a request runs. That an exchange presented meanwhile is an operation which changes nothing is the
model's choice (log entry 6, DESIGN CHOICE). -/
def Obligations.WriteCompletesBeforeReadBegins : Prop :=
  (∀ s t : State, step s = .next t →
    (s.Writing → t.rx = s.rx ∧ t.freePulls = s.freePulls ∧ t.handed = s.handed) ∧
    (¬ s.Writing → t.tx = s.tx ∧ t.txRoom = s.txRoom)) ∧
  (∀ (kind : Kind) (dir : Direction) (p : Byte) (s : State), s.busy = true →
    exec (exchangeOf kind dir p) s = .next s)

/-- 44_exchange.md (R200 to R207): a whole exchange of any kind with a legal parameter, over any bytes the transport then
delivers before a `Timeout`: the nineteen bytes of the command are written, then one candidate decides, as R181 says with
limit 0; a `Timeout` is answered `NotAcknowledged`. -/
def Obligations.ExchangeRunsToItsResponse : Prop :=
  ∀ (s : State) (kind : Kind) (dir : Direction) (p : Byte) (r : Half) (pf : List Byte) (f : Vector Byte 19)
    (bytes : List Byte) (later : List RxAnswer),
    s.busy = false → s.moves = [.request r pf] → decodeRequest r = exchangeOf kind dir p →
    build s.wire kind dir p s.devid = .ok f → (∀ n, s.txRoom = some n → 19 ≤ n) →
    s.rx = bytes.map RxAnswer.byte ++ RxAnswer.timeout :: later →
    ∃ n t, Sys2Proof.core.run n s = .next t ∧ t.busy = false ∧ t.AtRest ∧ t.moves = [] ∧
      t.tx = s.tx ++ f.toList ∧
      t.rsp = s.rsp ++ [(closedForm (replyNumber s.wire kind) (.atMost 0) bytes).response .xchg bytes] ∧
      t.rx = (closedForm (replyNumber s.wire kind) (.atMost 0) bytes).rest bytes later ∧
      t.devid = s.devid ∧ t.maxrs = s.maxrs ∧ t.rsen = s.rsen ∧ t.timeout = s.timeout ∧ t.cfgOut = s.cfgOut

/-! ## Reserved words, PARSE, configuration -/

/-- R96: the operation codes, and the answer to a reserved request: `InvalidParameter`, no byte pulled or pushed and no
state changed. The last part says for every other word which operation it is, with the fields of R95 and the codes of R97:
`op` in bits 15:13, `kind` in 12:11, `dir` in 10, `param` in 7:0. -/
def Obligations.ReservedRequestsAnswerInvalidParameter : Prop :=
  (∀ (x : BitVec 15) (h7 : BitVec 7) (h6 : BitVec 6) (b : BitVec 1) (lo : Byte) (s : State), s.busy = false →
    exec (.reservedOp x) s = .next (answeredWith s .invalidParameter) ∧
    exec (.reservedBit8 h7 lo) s = .next (answeredWith s .invalidParameter) ∧
    exec (.reservedBit9 h6 b lo) s = .next (answeredWith s .invalidParameter)) ∧
  (∀ (r : Half) (pf : List Byte) (rest : List HostMove) (s : State), s.busy = false →
    s.moves = .request r pf :: rest → (4 ≤ r.toNat / 2 ^ 13 ∨ r.toNat / 2 ^ 8 % 4 ≠ 0) →
    step s = .next (answeredWith { s with moves := rest, pf := pf } .invalidParameter)) ∧
  (∀ r : Half, r.toNat / 2 ^ 8 % 4 = 0 →
    let kind := kindOfCode (r.toNat / 2 ^ 11 % 4)
    let dir := directionOfCode (r.toNat / 2 ^ 10 % 2)
    let param : Byte := BitVec.ofNat 8 (r.toNat % 2 ^ 8)
    let unused : BitVec 3 := BitVec.ofNat 3 (r.toNat / 2 ^ 10 % 8)
    (r.toNat / 2 ^ 13 = 0 → decodeRequest r = buildOf kind dir param) ∧
    (r.toNat / 2 ^ 13 = 1 → decodeRequest r = .parse unused param) ∧
    (r.toNat / 2 ^ 13 = 2 → decodeRequest r = .read unused param) ∧
    (r.toNat / 2 ^ 13 = 3 → decodeRequest r = exchangeOf kind dir param))

/-- R151, R152, R153 on the pure function: the tests in their order, and the two values. -/
def Obligations.ParseTestsLengthThenChecksumThenTail : Prop :=
  (∀ f : List Byte, f.length ≠ 10 → parse f = .error .malformedFrame) ∧
  (∀ f0 f1 f2 f3 f4 f5 f6 f7 f8 f9 : Byte,
    let sum := f2 + f3 + f4 + f5 + f6 + f7
    (sum ≠ f8 → parse [f0, f1, f2, f3, f4, f5, f6, f7, f8, f9] = .error .checksumMismatch) ∧
    (sum = f8 → f9 ≠ 0xAB → parse [f0, f1, f2, f3, f4, f5, f6, f7, f8, f9] = .error .malformedFrame) ∧
    (sum = f8 → f9 = 0xAB →
      parse [f0, f1, f2, f3, f4, f5, f6, f7, f8, f9] = .ok (little f2 f3, little f4 f5)))

/-- 42_frame_validator.md (R151, R152, R153 through PARSE, R150): the answer for every operand on PF, in the order of the
tests. That the accumulator keeps the sum where one is computed is the model's choice (log entry 12, DEDUCED); nothing
else of the state changes. -/
def Obligations.ParseAnswersByLengthChecksumTail : Prop :=
  ∀ (x : BitVec 3) (y : Byte) (s : State), s.busy = false →
    (s.pf.length ≠ 10 → exec (.parse x y) s = .next (answeredWith s .malformedFrame)) ∧
    (∀ f0 f1 f2 f3 f4 f5 f6 f7 f8 f9 : Byte, s.pf = [f0, f1, f2, f3, f4, f5, f6, f7, f8, f9] →
      let sum := f2 + f3 + f4 + f5 + f6 + f7
      (sum ≠ f8 → exec (.parse x y) s = .next (answeredWith { s with acc := sum } .checksumMismatch)) ∧
      (sum = f8 → f9 ≠ 0xAB → exec (.parse x y) s = .next (answeredWith { s with acc := sum } .malformedFrame)) ∧
      (sum = f8 → f9 = 0xAB → exec (.parse x y) s =
        .next { s with acc := sum, rsp := s.rsp ++ [.ok (.values (little f2 f3) (little f4 f5))] }))

/-- R156: a ten-byte frame with the right checksum and tail parses to its two values, and flipping any one bit of offsets
2..8 makes it `ChecksumMismatch`. -/
def Obligations.SingleBitCorruptionIsDetected : Prop :=
  ∀ f : Vector Byte 10, f[8].toNat = (f[2].toNat + f[3].toNat + f[4].toNat + f[5].toNat + f[6].toNat + f[7].toNat) % 256 →
    f[9] = 0xAB →
    parse f.toList = .ok (little f[2] f[3], little f[4] f[5]) ∧
    ∀ (i : Fin 10) (j : Fin 8), 2 ≤ i.val → i.val ≤ 8 →
      parse (f.set i (f[i] ^^^ BitVec.twoPow 8 j.val)).toList = .error .checksumMismatch

/-- R157: encoding two values the sensor's way and parsing them gives them back. -/
def Obligations.SensorFrameRoundTrip : Prop :=
  ∀ (v1 v2 id : Half) (no : Byte), parse (sensorFrame v1 v2 id no).toList = .ok (v1, v2)

/-- 42_frame_validator.md (R155): `Parse` tests neither offset 0 nor offset 1. -/
def Obligations.ParseIgnoresHeadAndCommandNumber : Prop :=
  ∀ (h n h' n' : Byte) (t : List Byte), parse (h :: n :: t) = parse (h' :: n' :: t)

/-- 45_config.md (R222): a write changes the implemented bits of the one register addressed and nothing else, and only when
idle. That an access presented while `busy = 1` is an operation which changes nothing is the model's choice (log entry 6,
DESIGN CHOICE); the rule says that it is not accepted. -/
def Obligations.ConfigWriteChangesOneRegister : Prop :=
  ∀ (v : Word) (s : State),
    (s.busy = false →
      exec (.cfgw .devid v) s = .next { s with devid := v.setWidth 16 } ∧
      exec (.cfgw .maxrs v) s = .next { s with maxrs := v.setWidth 16 } ∧
      exec (.cfgw .ctrl v) s = .next { s with rsen := v.getLsbD 0 } ∧
      exec (.cfgw .timeout v) s = .next { s with timeout := v }) ∧
    (s.busy = true → ∀ r, exec (.cfgw r v) s = .next s)

/-- 45_config.md (R223): a read returns the register's implemented bits, zero elsewhere, and has no side effect. What TIMEOUT
holds before it is written is the model's choice (log entry 4); nothing here says what it is. That an access presented while
`busy = 1` is an operation which changes nothing is the model's choice too (log entry 6, DESIGN CHOICE). -/
def Obligations.ConfigReadReturnsTheRegister : Prop :=
  ∀ s : State,
    (s.busy = false →
      exec (.cfgr .devid) s = .next { s with cfgOut := s.cfgOut ++ [(0 : BitVec 16) ++ s.devid] } ∧
      exec (.cfgr .maxrs) s = .next { s with cfgOut := s.cfgOut ++ [(0 : BitVec 16) ++ s.maxrs] } ∧
      exec (.cfgr .ctrl) s = .next { s with cfgOut := s.cfgOut ++ [if s.rsen = true then 1 else 0] } ∧
      exec (.cfgr .timeout) s = .next { s with cfgOut := s.cfgOut ++ [s.timeout] }) ∧
    (s.busy = true → ∀ r, exec (.cfgr r) s = .next s)

/-- 45_config.md (R221, "Bits not implemented read as 0 and ignore writes"): reading a register just written gives the
implemented bits of what was written, and the other registers read as before. -/
def Obligations.ConfigReadAfterWrite : Prop :=
  ∀ (r q : ConfigReg) (v : Word) (s : State),
    (s.writeConfig r v).readConfig r = implemented r v ∧
    (q ≠ r → (s.writeConfig r v).readConfig q = s.readConfig q)

/-! ## The checksum generator (40_checksum.md) -/

/-- R122: the 8-bit accumulator, from 0, ends at the checksum, whatever the bytes. -/
def Obligations.AccumulatorEndsAtChecksum : Prop :=
  ∀ l : List Byte, l.foldl accumulate 0 = checksum l ∧ (checksum l).toNat = (l.map BitVec.toNat).sum % 256

/-- 40_checksum.md (R123 (a) to (d)): the empty sum, concatenation, independence of order, zeros contribute nothing. -/
def Obligations.ChecksumLaws : Prop :=
  checksum [] = 0 ∧
  (∀ a b : List Byte, (checksum (a ++ b)).toNat = ((checksum a).toNat + (checksum b).toNat) % 256) ∧
  (∀ a b : List Byte, a.Perm b → checksum a = checksum b) ∧
  (∀ a : List Byte, checksum (a.filter (· != 0)) = checksum a)

/-! ## READ and the scan (43_stream_reader.md) -/

/-- 43_stream_reader.md section 1 (the acceptance of R170) and 45_config.md (R224): READ in the idle block latches the
limit from CTRL.RSEN and MAXRS, expects `0xC0` and starts the scan; nothing else changes. -/
def Obligations.ReadAcceptedWithItsLimit : Prop :=
  ∀ (x : BitVec 3) (y : Byte) (s : State), s.busy = false →
    exec (.read x y) s =
      .next { s with
        busy := true, op := .read, txi := 0, expect := 0xC0,
        limit := if s.rsen = true then .atMost s.maxrs.toNat else .unbounded,
        st := .seekHead, cnt := 0, pend := [], rsCnt := 0 }

/-- R172, with the pull of R51 and the value of TIMEOUT that goes with it: the replay queue first, without a transfer; then
the front of what the transport holds, removed. Beyond the script the answer is the free value, whatever it is. -/
def Obligations.NextByteReplaysThenPulls : Prop :=
  ∀ s : State,
    (∀ b rest, s.pend = b :: rest → s.nextByte = (.byte b, { s with pend := rest })) ∧
    (∀ a rest, s.pend = [] → s.rx = a :: rest →
      s.nextByte = (a, { s with rx := rest, handed := some s.timeout })) ∧
    (s.pend = [] → s.rx = [] →
      s.nextByte = (Config.rxAnswer s.freePulls,
        { s with freePulls := s.freePulls + 1, handed := some s.timeout }))

/-- R173: the `SEEK_HEAD` step on the next byte of the scan. -/
def Obligations.SeekHeadStepSkipsOrTakesTheHead : Prop :=
  ∀ (s u : State) (a : RxAnswer), blockTurn s = true → s.Seeking → s.nextByte = (a, u) →
    (a = .timeout → step s = .next (cycleEnded u (.error (timeoutStatus s.op)))) ∧
    (∀ b, a = .byte b → b ≠ 0xAA → step s = .next u) ∧
    (a = .byte 0xAA → step s = .next { u with buf := u.buf.set 0 0xAA, cnt := 1, st := .readBody })

/-- R174: the `READ_BODY` step on the next byte of the scan, for the nine places of the body. In the write phase, which no
reachable state has here (R32 (g)), the step is another one. -/
def Obligations.ReadBodyStepStoresTheByte : Prop :=
  ∀ (s u : State) (a : RxAnswer) (k : Fin 10), blockTurn s = true → ¬ s.Writing → s.busy = true → s.st = .readBody →
    s.cnt = k.val → s.nextByte = (a, u) →
    (a = .timeout → step s = .next (cycleEnded u (.error (timeoutStatus s.op)))) ∧
    (∀ b, a = .byte b → k.val < 9 →
      step s = .next { u with buf := u.buf.set k b, cnt := k.val + 1, st := .readBody }) ∧
    (∀ b, a = .byte b → k.val = 9 →
      step s = .next { u with buf := u.buf.set k b, cnt := 10, st := .validate })

/-- R176, `Resync()` in a running cycle after the candidate `f`, its bound written out: unbounded, or `rs_cnt < N`, starts
an attempt; `N <= rs_cnt` ends the cycle with `DesyncExceeded`. -/
def Obligations.ResyncStopsAtTheLimit : Prop :=
  ∀ (s : State) (f : Vector Byte 10), s.busy = true →
    let body := [f[1], f[2], f[3], f[4], f[5], f[6], f[7], f[8], f[9]]
    (s.limit = .unbounded → s.resync f = resynchronized s body) ∧
    (∀ N, s.limit = .atMost N → s.rsCnt < N → s.resync f = resynchronized s body) ∧
    (∀ N, s.limit = .atMost N → N ≤ s.rsCnt → s.resync f = cycleEnded s (.error .desyncExceeded))

/-- 43_stream_reader.md section 2 (R175, R176): the `VALIDATE` step on any ten bytes: good exactly when the checksum, the
tail and the command number are right; otherwise an attempt where the limit is unbounded or `rs_cnt < N`, and
`DesyncExceeded` where `N <= rs_cnt`. That the accumulator keeps the sum is the model's choice (log entry 12, DEDUCED). -/
def Obligations.ValidateStepDecidesTheCandidate : Prop :=
  ∀ (s : State) (f0 f1 f2 f3 f4 f5 f6 f7 f8 f9 : Byte), blockTurn s = true → ¬ s.Writing → s.Validating →
    s.buf = #v[f0, f1, f2, f3, f4, f5, f6, f7, f8, f9] →
    let sum := f2 + f3 + f4 + f5 + f6 + f7
    let body := [f1, f2, f3, f4, f5, f6, f7, f8, f9]
    (f8 = sum → f9 = 0xAB → f1 = s.expect →
      step s = .next (cycleEnded { s with acc := sum }
        (.ok (.reading s.buf (little f2 f3) (little f4 f5))))) ∧
    (¬ (f8 = sum ∧ f9 = 0xAB ∧ f1 = s.expect) →
      (s.limit = .unbounded → step s = .next (resynchronized { s with acc := sum } body)) ∧
      (∀ N, s.limit = .atMost N → s.rsCnt < N → step s = .next (resynchronized { s with acc := sum } body)) ∧
      (∀ N, s.limit = .atMost N → N ≤ s.rsCnt →
        step s = .next (cycleEnded { s with acc := sum } (.error .desyncExceeded))))

/-- 43_stream_reader.md section 2 (R175, R180) for the two data frames as operations: in VALIDATE, with the right checksum
and the expected command number, the cycle ends with `OK`, the frame and its two values. R175 validates `buf`; that the row
validates its own bytes, also where `buf` holds something else, is the model's choice (log entry 7, DEDUCED), and so is
that the accumulator keeps the sum (log entry 12, DEDUCED). -/
def Obligations.GoodDataFramesEndTheCycle : Prop :=
  ∀ (s : State) (n a b e g ck : Byte) (id : Half), s.Validating → ck = replySum a b e g id →
    (s.expect = 0xC0 → exec (.dataMeasurement a b e g id ck) s =
      .next (cycleEnded { s with acc := ck }
        (.ok (.reading (replyFrame 0xC0 a b e g id ck) (little a b) (little e g))))) ∧
    (s.expect = n → exec (.dataReply n a b e g id ck) s =
      .next (cycleEnded { s with acc := ck }
        (.ok (.reading (replyFrame n a b e g id ck) (little a b) (little e g)))))

/-- 43_stream_reader.md section 2 (R175, R176) for the two data frames as operations: with a wrong checksum or an
unexpected command number the candidate fails, and the bound of R176 decides. R175 validates `buf`; that the row validates
its own bytes, also where `buf` holds something else, is the model's choice (log entry 7, DEDUCED), and so is that the
accumulator keeps the sum (log entry 12, DEDUCED). -/
def Obligations.BadDataFramesAreResynchronized : Prop :=
  ∀ (s : State) (n a b e g ck : Byte) (id : Half), s.Validating →
    (ck ≠ replySum a b e g id ∨ s.expect ≠ 0xC0 → exec (.dataMeasurement a b e g id ck) s =
      .next (candidateFailed { s with acc := replySum a b e g id }
        [0xC0, a, b, e, g, id.extractLsb' 8 8, id.extractLsb' 0 8, ck, 0xAB])) ∧
    (ck ≠ replySum a b e g id ∨ s.expect ≠ n → exec (.dataReply n a b e g id ck) s =
      .next (candidateFailed { s with acc := replySum a b e g id }
        [n, a, b, e, g, id.extractLsb' 8 8, id.extractLsb' 0 8, ck, 0xAB]))

/-- R181: the closed form of a cycle. From the start of the scan of a READ, or of the read phase of an exchange, over any
bytes followed by a `Timeout`, the steps end the cycle with the response of the closed form, the transport left with what
it says, and the block at rest. -/
def Obligations.CycleComputesItsClosedForm : Prop :=
  ∀ (s : State) (bytes : List Byte) (later : List RxAnswer),
    blockTurn s = true → s.Seeking → s.pend = [] → s.rsCnt = 0 →
    s.rx = bytes.map RxAnswer.byte ++ RxAnswer.timeout :: later →
    ∃ n t, Sys2Proof.core.run n s = .next t ∧ t.busy = false ∧ t.AtRest ∧
      t.rsp = s.rsp ++ [(closedForm s.expect s.limit bytes).response s.op bytes] ∧
      t.rx = (closedForm s.expect s.limit bytes).rest bytes later ∧
      t.tx = s.tx ∧ t.cfgOut = s.cfgOut ∧ t.moves = s.moves ∧
      t.devid = s.devid ∧ t.maxrs = s.maxrs ∧ t.rsen = s.rsen ∧ t.timeout = s.timeout

/-- R184: with no head before the `Timeout`, a READ cycle ends with `Timeout`, one step per answer, whatever the limit. -/
def Obligations.NoHeadNoReading : Prop :=
  ∀ (s : State) (answers later : List RxAnswer),
    blockTurn s = true → s.Seeking → s.op = .read → s.pend = [] →
    (∀ a ∈ answers, a ≠ .timeout ∧ a ≠ .byte 0xAA) → s.rx = answers ++ RxAnswer.timeout :: later →
    Sys2Proof.core.run (answers.length + 1) s =
      .next (cycleEnded { s with rx := later, handed := some s.timeout } (.error .timeout))

/-! ## The whole machine -/

/-- R34 (what it states; what it leaves unspecified is not here): the values after reset. -/
def Obligations.ResetValues : Prop :=
  State.reset.busy = false ∧ State.reset.st = .seekHead ∧ State.reset.cnt = 0 ∧ State.reset.pend = [] ∧
  State.reset.rsCnt = 0 ∧ State.reset.txi = 0 ∧ State.reset.devid = 0xFFFF ∧ State.reset.rsen = false ∧
  State.reset.maxrs = 0

/-- 70_reset_and_hazards.md section 1 (R280, R281, R282): the reset input, in any state, also while a request runs: the
stated values of R34 hold, no response is delivered, and the far ends of the channels keep what they have. -/
def Obligations.ResetInputAbandonsTheRequest : Prop :=
  ∀ (s : State) (rest : List HostMove), s.moves = .reset :: rest →
    ∃ t, step s = .next t ∧ t.busy = false ∧ t.AtRest ∧ t.devid = 0xFFFF ∧ t.rsen = false ∧ t.maxrs = 0 ∧
      t.rsp = s.rsp ∧ t.cfgOut = s.cfgOut ∧ t.rx = s.rx ∧ t.freePulls = s.freePulls ∧ t.tx = s.tx ∧
      t.txRoom = s.txRoom ∧ t.wire = s.wire ∧ t.moves = rest

/-- 10_state.md section 5 (R32): the invariants hold after reset, and of a running exchange (R203) too. -/
def Obligations.ResetStateMeetsInvariants : Prop := State.reset.Inv ∧ State.reset.SingleFrame

/-- 10_state.md section 5 (R32 (a) to (f), and of (g) what speaks of the state): every step keeps the invariants. -/
def Obligations.StepKeepsInvariants : Prop :=
  ∀ s t : State, s.Inv → step s = .next t → t.Inv

/-- 44_exchange.md (R203, "pend stays empty throughout"): every step keeps a running exchange a single-frame cycle. -/
def Obligations.StepKeepsExchangeSingleFrame : Prop :=
  ∀ s t : State, s.SingleFrame → step s = .next t → t.SingleFrame

/-- R179 ("there is no transition out of a cycle except by a response"), but for reset (R291): a step of a running cycle
either leaves it running and delivers nothing, or ends it at rest with exactly one response. -/
def Obligations.CycleEndsOnlyByResponse : Prop :=
  ∀ s t : State, s.busy = true → (∀ rest, s.moves ≠ .reset :: rest) → step s = .next t →
    (t.busy = true ∧ t.rsp = s.rsp) ∨ (t.busy = false ∧ t.AtRest ∧ ∃ r, t.rsp = s.rsp ++ [r])

/-- 60_exceptions.md section 1 (R241): the statuses an operation can be answered with when it is accepted, and those a
running cycle can end with; `DesyncExceeded` only with a finite limit. -/
def Obligations.StatusesByOperation : Prop :=
  (∀ (i : Instr) (s t : State) (r : Response), s.busy = false → exec i s = .next t → t.rsp = s.rsp ++ [r] →
    r.status ∈ statusesAtAcceptance i) ∧
  (∀ (s t : State) (r : Response), s.busy = true → step s = .next t → t.rsp = s.rsp ++ [r] →
    r.status ∈ statusesInCycle s.op ∧ (r.status = 5 → s.limit ≠ .unbounded))

/-- 10_state.md (R28, the registers "are never written by the block") and 70_reset_and_hazards.md (R286, R295): no operation
but CFGW changes a configuration register, and no step does, busy or idle, but a reset and the step that accepts a CFGW. -/
def Obligations.BlockNeverWritesConfiguration : Prop :=
  (∀ (i : Instr) (s t : State), isConfigWrite i = false → exec i s = .next t →
    t.devid = s.devid ∧ t.maxrs = s.maxrs ∧ t.rsen = s.rsen ∧ t.timeout = s.timeout) ∧
  (∀ s t : State, (∀ rest, s.moves ≠ .reset :: rest) →
    (s.busy = false → ∀ a d rest, s.moves ≠ .config true a d :: rest) → step s = .next t →
    t.devid = s.devid ∧ t.maxrs = s.maxrs ∧ t.rsen = s.rsen ∧ t.timeout = s.timeout)

/-- 45_config.md (R225, "no register changes them"): no step changes the wire constants. -/
def Obligations.WireConstantsNeverChange : Prop :=
  ∀ s t : State, step s = .next t → t.wire = s.wire

/-- 43_stream_reader.md (R172, `NextByte()` is "the only caller of RxPull()") and 70_reset_and_hazards.md (R286, R300): no
operation of the table pulls a byte, and a step of the idle block pulls and pushes nothing. -/
def Obligations.OnlyTheScanPulls : Prop :=
  (∀ (i : Instr) (s t : State), exec i s = .next t →
    t.rx = s.rx ∧ t.freePulls = s.freePulls ∧ t.handed = s.handed) ∧
  (∀ s t : State, s.busy = false → step s = .next t →
    t.rx = s.rx ∧ t.freePulls = s.freePulls ∧ t.handed = s.handed ∧ t.tx = s.tx ∧ t.txRoom = s.txRoom)

/-- 10_state.md section 5 (R31, "Only the four configuration registers carry information from one request to the next"):
two idle blocks that agree on the configuration registers and the channels, and differ in whatever else they hold, cannot
be told apart by any number of steps. -/
def Obligations.IdleBlockKeepsNoOtherInformation : Prop :=
  ∀ (s u : State), s.busy = false → s.AtRest → u.AtRest → s.SameOutside u →
    ∀ (n : Nat) (t : State), Sys2Proof.core.run n s = .next t →
      ∃ v, Sys2Proof.core.run n u = .next v ∧ t.SameOutside v
end

