-- ==== Sys2Proof/Laws/Frames.lean ====
section
/-! SUPPORT. The small lemmas of the checksum, the two-byte fields and the two layouts. -/

namespace Sys2Proof.Machine

/-- The checksum of no bytes (R123 (a)). -/
@[simp] theorem checksum_nil : checksum [] = 0 := rfl

/-- The checksum, one byte at a time. -/
theorem checksum_cons (b : Byte) (s : List Byte) : checksum (b :: s) = b + checksum s := by
  apply BitVec.eq_of_toNat_eq
  simp [checksum, BitVec.toNat_add]

/-- The high byte of an id put together from two bytes (R56). -/
@[simp] theorem hi8_idOf (hi lo : Byte) : hi8 (idOf hi lo) = hi := by
  unfold hi8 idOf; exact BitVec.extractLsb'_append_eq_left

/-- The low byte of an id put together from two bytes (R56). -/
@[simp] theorem lo8_idOf (hi lo : Byte) : lo8 (idOf hi lo) = lo := by
  unfold lo8 idOf; exact BitVec.extractLsb'_append_eq_right

/-- An id put together from its own two bytes (R56). -/
@[simp] theorem idOf_hi8_lo8 (id : Half) : idOf (hi8 id) (lo8 id) = id := by
  unfold idOf hi8 lo8
  apply BitVec.eq_of_getLsbD_eq
  intro i h
  simp only [BitVec.getLsbD_append, BitVec.getLsbD_extractLsb']
  by_cases h8 : i < 8
  · simp [h8]
  · have hs : i - 8 < 8 := by omega
    have he : 8 + (i - 8) = i := by omega
    simp [h8, hs, he]

/-- The bytes of a command frame, offset by offset (R81). -/
theorem commandFrame_toList (k d m : Byte) (id : Half) (ck : Byte) :
    (commandFrame k d m id ck).toList =
      [headByte, cmdMark, k, d, m, 0, 0, 0, 0, 0, 0, 0, 0, 0, 0, hi8 id, lo8 id, ck, tailByte] := rfl

/-- The bytes of a data frame, offset by offset (R88). -/
theorem dataFrame_toList (n a b e g : Byte) (id : Half) (ck : Byte) :
    (dataFrame n a b e g id ck).toList = [headByte, n, a, b, e, g, hi8 id, lo8 id, ck, tailByte] := rfl

/-- The range a command frame's checksum covers (R87). -/
theorem commandRange_commandFrame (k d m : Byte) (id : Half) (ck : Byte) :
    commandRange (commandFrame k d m id ck) = [k, d, m, 0, 0, 0, 0, 0, 0, 0, 0, 0, 0, hi8 id, lo8 id] := rfl

/-- The checksum of a command frame is the sum of its at most five non-zero range bytes (R87, R123 (d)). -/
theorem checksum_commandRange (k d m : Byte) (id : Half) (ck : Byte) :
    checksum (commandRange (commandFrame k d m id ck)) = k + d + m + hi8 id + lo8 id := by
  have z : ∀ b : Byte, 0#8 + b = b := BitVec.zero_add
  rw [commandRange_commandFrame]
  simp only [checksum_cons, checksum_nil, BitVec.add_assoc, BitVec.ofNat_eq_ofNat, z, BitVec.add_zero]

/-- The range a data frame's checksum covers (R91). -/
theorem dataRange_dataFrame (n a b e g : Byte) (id : Half) (ck : Byte) :
    dataRange (dataFrame n a b e g id ck).toList = [a, b, e, g, hi8 id, lo8 id] := rfl

/-- The thirteen bytes of a body, offset by offset (R132, R134, R136). -/
theorem bodyOf_eq (k d m : Byte) : bodyOf k d m = #v[k, d, m, 0, 0, 0, 0, 0, 0, 0, 0, 0, 0] :=
  Vector.toList_inj.mp rfl

/-- The frame around a body is the layout of R81 (R131). -/
theorem frame_of_body (k d m : Byte) (id : Half) (ck : Byte) :
    #v[headByte, cmdMark] ++ bodyOf k d m ++ #v[hi8 id, lo8 id] ++ #v[ck, tailByte] =
      commandFrame k d m id ck := by
  rw [bodyOf_eq]; apply Vector.toList_inj.mp; simp only [Vector.toList_append]; rfl

end Sys2Proof.Machine
end

