-- ==== Sys2Proof/Laws/State.lean ====
section
/-! SUPPORT. One lemma per field per update of the state, so that no proof unfolds a record update. -/

namespace Sys2Proof.Machine

/-! ## A response (R17) -/

@[simp] theorem State.respond_devid (s : State) (r : Response) : (s.respond r).devid = s.devid := rfl
@[simp] theorem State.respond_maxrs (s : State) (r : Response) : (s.respond r).maxrs = s.maxrs := rfl
@[simp] theorem State.respond_rsen (s : State) (r : Response) : (s.respond r).rsen = s.rsen := rfl
@[simp] theorem State.respond_timeout (s : State) (r : Response) : (s.respond r).timeout = s.timeout := rfl
@[simp] theorem State.respond_busy (s : State) (r : Response) : (s.respond r).busy = s.busy := rfl
@[simp] theorem State.respond_op (s : State) (r : Response) : (s.respond r).op = s.op := rfl
@[simp] theorem State.respond_limit (s : State) (r : Response) : (s.respond r).limit = s.limit := rfl
@[simp] theorem State.respond_expect (s : State) (r : Response) : (s.respond r).expect = s.expect := rfl
@[simp] theorem State.respond_txi (s : State) (r : Response) : (s.respond r).txi = s.txi := rfl
@[simp] theorem State.respond_st (s : State) (r : Response) : (s.respond r).st = s.st := rfl
@[simp] theorem State.respond_cnt (s : State) (r : Response) : (s.respond r).cnt = s.cnt := rfl
@[simp] theorem State.respond_rsCnt (s : State) (r : Response) : (s.respond r).rsCnt = s.rsCnt := rfl
@[simp] theorem State.respond_buf (s : State) (r : Response) : (s.respond r).buf = s.buf := rfl
@[simp] theorem State.respond_pend (s : State) (r : Response) : (s.respond r).pend = s.pend := rfl
@[simp] theorem State.respond_cf (s : State) (r : Response) : (s.respond r).cf = s.cf := rfl
@[simp] theorem State.respond_acc (s : State) (r : Response) : (s.respond r).acc = s.acc := rfl
@[simp] theorem State.respond_wire (s : State) (r : Response) : (s.respond r).wire = s.wire := rfl
@[simp] theorem State.respond_moves (s : State) (r : Response) : (s.respond r).moves = s.moves := rfl
@[simp] theorem State.respond_pf (s : State) (r : Response) : (s.respond r).pf = s.pf := rfl
@[simp] theorem State.respond_rx (s : State) (r : Response) : (s.respond r).rx = s.rx := rfl
@[simp] theorem State.respond_freePulls (s : State) (r : Response) : (s.respond r).freePulls = s.freePulls := rfl
@[simp] theorem State.respond_handed (s : State) (r : Response) : (s.respond r).handed = s.handed := rfl
@[simp] theorem State.respond_txRoom (s : State) (r : Response) : (s.respond r).txRoom = s.txRoom := rfl
@[simp] theorem State.respond_tx (s : State) (r : Response) : (s.respond r).tx = s.tx := rfl
@[simp] theorem State.respond_rsp (s : State) (r : Response) : (s.respond r).rsp = s.rsp ++ [r] := rfl
@[simp] theorem State.respond_cfgOut (s : State) (r : Response) : (s.respond r).cfgOut = s.cfgOut := rfl

/-! ## The end of a cycle (R178) -/

@[simp] theorem State.endCycle_devid (s : State) : (s.endCycle).devid = s.devid := rfl
@[simp] theorem State.endCycle_maxrs (s : State) : (s.endCycle).maxrs = s.maxrs := rfl
@[simp] theorem State.endCycle_rsen (s : State) : (s.endCycle).rsen = s.rsen := rfl
@[simp] theorem State.endCycle_timeout (s : State) : (s.endCycle).timeout = s.timeout := rfl
@[simp] theorem State.endCycle_busy (s : State) : (s.endCycle).busy = false := rfl
@[simp] theorem State.endCycle_op (s : State) : (s.endCycle).op = s.op := rfl
@[simp] theorem State.endCycle_limit (s : State) : (s.endCycle).limit = s.limit := rfl
@[simp] theorem State.endCycle_expect (s : State) : (s.endCycle).expect = s.expect := rfl
@[simp] theorem State.endCycle_txi (s : State) : (s.endCycle).txi = 0 := rfl
@[simp] theorem State.endCycle_st (s : State) : (s.endCycle).st = .seekHead := rfl
@[simp] theorem State.endCycle_cnt (s : State) : (s.endCycle).cnt = 0 := rfl
@[simp] theorem State.endCycle_rsCnt (s : State) : (s.endCycle).rsCnt = 0 := rfl
@[simp] theorem State.endCycle_buf (s : State) : (s.endCycle).buf = s.buf := rfl
@[simp] theorem State.endCycle_pend (s : State) : (s.endCycle).pend = [] := rfl
@[simp] theorem State.endCycle_cf (s : State) : (s.endCycle).cf = s.cf := rfl
@[simp] theorem State.endCycle_acc (s : State) : (s.endCycle).acc = s.acc := rfl
@[simp] theorem State.endCycle_wire (s : State) : (s.endCycle).wire = s.wire := rfl
@[simp] theorem State.endCycle_moves (s : State) : (s.endCycle).moves = s.moves := rfl
@[simp] theorem State.endCycle_pf (s : State) : (s.endCycle).pf = s.pf := rfl
@[simp] theorem State.endCycle_rx (s : State) : (s.endCycle).rx = s.rx := rfl
@[simp] theorem State.endCycle_freePulls (s : State) : (s.endCycle).freePulls = s.freePulls := rfl
@[simp] theorem State.endCycle_handed (s : State) : (s.endCycle).handed = s.handed := rfl
@[simp] theorem State.endCycle_txRoom (s : State) : (s.endCycle).txRoom = s.txRoom := rfl
@[simp] theorem State.endCycle_tx (s : State) : (s.endCycle).tx = s.tx := rfl
@[simp] theorem State.endCycle_rsp (s : State) : (s.endCycle).rsp = s.rsp := rfl
@[simp] theorem State.endCycle_cfgOut (s : State) : (s.endCycle).cfgOut = s.cfgOut := rfl

/-! ## The good end of a cycle (R175) -/

@[simp] theorem State.finishCycle_devid (s : State) (p : Payload) : (s.finishCycle p).devid = s.devid := rfl
@[simp] theorem State.finishCycle_maxrs (s : State) (p : Payload) : (s.finishCycle p).maxrs = s.maxrs := rfl
@[simp] theorem State.finishCycle_rsen (s : State) (p : Payload) : (s.finishCycle p).rsen = s.rsen := rfl
@[simp] theorem State.finishCycle_timeout (s : State) (p : Payload) : (s.finishCycle p).timeout = s.timeout := rfl
@[simp] theorem State.finishCycle_busy (s : State) (p : Payload) : (s.finishCycle p).busy = false := rfl
@[simp] theorem State.finishCycle_op (s : State) (p : Payload) : (s.finishCycle p).op = s.op := rfl
@[simp] theorem State.finishCycle_limit (s : State) (p : Payload) : (s.finishCycle p).limit = s.limit := rfl
@[simp] theorem State.finishCycle_expect (s : State) (p : Payload) : (s.finishCycle p).expect = s.expect := rfl
@[simp] theorem State.finishCycle_txi (s : State) (p : Payload) : (s.finishCycle p).txi = 0 := rfl
@[simp] theorem State.finishCycle_st (s : State) (p : Payload) : (s.finishCycle p).st = .seekHead := rfl
@[simp] theorem State.finishCycle_cnt (s : State) (p : Payload) : (s.finishCycle p).cnt = 0 := rfl
@[simp] theorem State.finishCycle_rsCnt (s : State) (p : Payload) : (s.finishCycle p).rsCnt = 0 := rfl
@[simp] theorem State.finishCycle_buf (s : State) (p : Payload) : (s.finishCycle p).buf = s.buf := rfl
@[simp] theorem State.finishCycle_pend (s : State) (p : Payload) : (s.finishCycle p).pend = [] := rfl
@[simp] theorem State.finishCycle_cf (s : State) (p : Payload) : (s.finishCycle p).cf = s.cf := rfl
@[simp] theorem State.finishCycle_acc (s : State) (p : Payload) : (s.finishCycle p).acc = s.acc := rfl
@[simp] theorem State.finishCycle_wire (s : State) (p : Payload) : (s.finishCycle p).wire = s.wire := rfl
@[simp] theorem State.finishCycle_moves (s : State) (p : Payload) : (s.finishCycle p).moves = s.moves := rfl
@[simp] theorem State.finishCycle_pf (s : State) (p : Payload) : (s.finishCycle p).pf = s.pf := rfl
@[simp] theorem State.finishCycle_rx (s : State) (p : Payload) : (s.finishCycle p).rx = s.rx := rfl
@[simp] theorem State.finishCycle_freePulls (s : State) (p : Payload) : (s.finishCycle p).freePulls = s.freePulls := rfl
@[simp] theorem State.finishCycle_handed (s : State) (p : Payload) : (s.finishCycle p).handed = s.handed := rfl
@[simp] theorem State.finishCycle_txRoom (s : State) (p : Payload) : (s.finishCycle p).txRoom = s.txRoom := rfl
@[simp] theorem State.finishCycle_tx (s : State) (p : Payload) : (s.finishCycle p).tx = s.tx := rfl
@[simp] theorem State.finishCycle_rsp (s : State) (p : Payload) : (s.finishCycle p).rsp = s.rsp ++ [.ok p] := rfl
@[simp] theorem State.finishCycle_cfgOut (s : State) (p : Payload) : (s.finishCycle p).cfgOut = s.cfgOut := rfl

/-! ## The checksum accumulator (R122) -/

@[simp] theorem State.latchSum_devid (s : State) (l : List Byte) : (s.latchSum l).devid = s.devid := rfl
@[simp] theorem State.latchSum_maxrs (s : State) (l : List Byte) : (s.latchSum l).maxrs = s.maxrs := rfl
@[simp] theorem State.latchSum_rsen (s : State) (l : List Byte) : (s.latchSum l).rsen = s.rsen := rfl
@[simp] theorem State.latchSum_timeout (s : State) (l : List Byte) : (s.latchSum l).timeout = s.timeout := rfl
@[simp] theorem State.latchSum_busy (s : State) (l : List Byte) : (s.latchSum l).busy = s.busy := rfl
@[simp] theorem State.latchSum_op (s : State) (l : List Byte) : (s.latchSum l).op = s.op := rfl
@[simp] theorem State.latchSum_limit (s : State) (l : List Byte) : (s.latchSum l).limit = s.limit := rfl
@[simp] theorem State.latchSum_expect (s : State) (l : List Byte) : (s.latchSum l).expect = s.expect := rfl
@[simp] theorem State.latchSum_txi (s : State) (l : List Byte) : (s.latchSum l).txi = s.txi := rfl
@[simp] theorem State.latchSum_st (s : State) (l : List Byte) : (s.latchSum l).st = s.st := rfl
@[simp] theorem State.latchSum_cnt (s : State) (l : List Byte) : (s.latchSum l).cnt = s.cnt := rfl
@[simp] theorem State.latchSum_rsCnt (s : State) (l : List Byte) : (s.latchSum l).rsCnt = s.rsCnt := rfl
@[simp] theorem State.latchSum_buf (s : State) (l : List Byte) : (s.latchSum l).buf = s.buf := rfl
@[simp] theorem State.latchSum_pend (s : State) (l : List Byte) : (s.latchSum l).pend = s.pend := rfl
@[simp] theorem State.latchSum_cf (s : State) (l : List Byte) : (s.latchSum l).cf = s.cf := rfl
@[simp] theorem State.latchSum_acc (s : State) (l : List Byte) : (s.latchSum l).acc = l.foldl accumulate 0 := rfl
@[simp] theorem State.latchSum_wire (s : State) (l : List Byte) : (s.latchSum l).wire = s.wire := rfl
@[simp] theorem State.latchSum_moves (s : State) (l : List Byte) : (s.latchSum l).moves = s.moves := rfl
@[simp] theorem State.latchSum_pf (s : State) (l : List Byte) : (s.latchSum l).pf = s.pf := rfl
@[simp] theorem State.latchSum_rx (s : State) (l : List Byte) : (s.latchSum l).rx = s.rx := rfl
@[simp] theorem State.latchSum_freePulls (s : State) (l : List Byte) : (s.latchSum l).freePulls = s.freePulls := rfl
@[simp] theorem State.latchSum_handed (s : State) (l : List Byte) : (s.latchSum l).handed = s.handed := rfl
@[simp] theorem State.latchSum_txRoom (s : State) (l : List Byte) : (s.latchSum l).txRoom = s.txRoom := rfl
@[simp] theorem State.latchSum_tx (s : State) (l : List Byte) : (s.latchSum l).tx = s.tx := rfl
@[simp] theorem State.latchSum_rsp (s : State) (l : List Byte) : (s.latchSum l).rsp = s.rsp := rfl
@[simp] theorem State.latchSum_cfgOut (s : State) (l : List Byte) : (s.latchSum l).cfgOut = s.cfgOut := rfl

/-! ## A word on the CFG channel (R223) -/

@[simp] theorem State.returnConfig_devid (s : State) (w : Word) : (s.returnConfig w).devid = s.devid := rfl
@[simp] theorem State.returnConfig_maxrs (s : State) (w : Word) : (s.returnConfig w).maxrs = s.maxrs := rfl
@[simp] theorem State.returnConfig_rsen (s : State) (w : Word) : (s.returnConfig w).rsen = s.rsen := rfl
@[simp] theorem State.returnConfig_timeout (s : State) (w : Word) : (s.returnConfig w).timeout = s.timeout := rfl
@[simp] theorem State.returnConfig_busy (s : State) (w : Word) : (s.returnConfig w).busy = s.busy := rfl
@[simp] theorem State.returnConfig_op (s : State) (w : Word) : (s.returnConfig w).op = s.op := rfl
@[simp] theorem State.returnConfig_limit (s : State) (w : Word) : (s.returnConfig w).limit = s.limit := rfl
@[simp] theorem State.returnConfig_expect (s : State) (w : Word) : (s.returnConfig w).expect = s.expect := rfl
@[simp] theorem State.returnConfig_txi (s : State) (w : Word) : (s.returnConfig w).txi = s.txi := rfl
@[simp] theorem State.returnConfig_st (s : State) (w : Word) : (s.returnConfig w).st = s.st := rfl
@[simp] theorem State.returnConfig_cnt (s : State) (w : Word) : (s.returnConfig w).cnt = s.cnt := rfl
@[simp] theorem State.returnConfig_rsCnt (s : State) (w : Word) : (s.returnConfig w).rsCnt = s.rsCnt := rfl
@[simp] theorem State.returnConfig_buf (s : State) (w : Word) : (s.returnConfig w).buf = s.buf := rfl
@[simp] theorem State.returnConfig_pend (s : State) (w : Word) : (s.returnConfig w).pend = s.pend := rfl
@[simp] theorem State.returnConfig_cf (s : State) (w : Word) : (s.returnConfig w).cf = s.cf := rfl
@[simp] theorem State.returnConfig_acc (s : State) (w : Word) : (s.returnConfig w).acc = s.acc := rfl
@[simp] theorem State.returnConfig_wire (s : State) (w : Word) : (s.returnConfig w).wire = s.wire := rfl
@[simp] theorem State.returnConfig_moves (s : State) (w : Word) : (s.returnConfig w).moves = s.moves := rfl
@[simp] theorem State.returnConfig_pf (s : State) (w : Word) : (s.returnConfig w).pf = s.pf := rfl
@[simp] theorem State.returnConfig_rx (s : State) (w : Word) : (s.returnConfig w).rx = s.rx := rfl
@[simp] theorem State.returnConfig_freePulls (s : State) (w : Word) : (s.returnConfig w).freePulls = s.freePulls := rfl
@[simp] theorem State.returnConfig_handed (s : State) (w : Word) : (s.returnConfig w).handed = s.handed := rfl
@[simp] theorem State.returnConfig_txRoom (s : State) (w : Word) : (s.returnConfig w).txRoom = s.txRoom := rfl
@[simp] theorem State.returnConfig_tx (s : State) (w : Word) : (s.returnConfig w).tx = s.tx := rfl
@[simp] theorem State.returnConfig_rsp (s : State) (w : Word) : (s.returnConfig w).rsp = s.rsp := rfl
@[simp] theorem State.returnConfig_cfgOut (s : State) (w : Word) : (s.returnConfig w).cfgOut = s.cfgOut ++ [w] := rfl

/-! ## The acceptance of READ (R170) -/

@[simp] theorem State.acceptRead_devid (s : State) : (s.acceptRead).devid = s.devid := rfl
@[simp] theorem State.acceptRead_maxrs (s : State) : (s.acceptRead).maxrs = s.maxrs := rfl
@[simp] theorem State.acceptRead_rsen (s : State) : (s.acceptRead).rsen = s.rsen := rfl
@[simp] theorem State.acceptRead_timeout (s : State) : (s.acceptRead).timeout = s.timeout := rfl
@[simp] theorem State.acceptRead_busy (s : State) : (s.acceptRead).busy = true := rfl
@[simp] theorem State.acceptRead_op (s : State) : (s.acceptRead).op = .read := rfl
@[simp] theorem State.acceptRead_limit (s : State) : (s.acceptRead).limit = s.readLimit := rfl
@[simp] theorem State.acceptRead_expect (s : State) : (s.acceptRead).expect = dataCmdNo := rfl
@[simp] theorem State.acceptRead_txi (s : State) : (s.acceptRead).txi = 0 := rfl
@[simp] theorem State.acceptRead_st (s : State) : (s.acceptRead).st = .seekHead := rfl
@[simp] theorem State.acceptRead_cnt (s : State) : (s.acceptRead).cnt = 0 := rfl
@[simp] theorem State.acceptRead_rsCnt (s : State) : (s.acceptRead).rsCnt = 0 := rfl
@[simp] theorem State.acceptRead_buf (s : State) : (s.acceptRead).buf = s.buf := rfl
@[simp] theorem State.acceptRead_pend (s : State) : (s.acceptRead).pend = [] := rfl
@[simp] theorem State.acceptRead_cf (s : State) : (s.acceptRead).cf = s.cf := rfl
@[simp] theorem State.acceptRead_acc (s : State) : (s.acceptRead).acc = s.acc := rfl
@[simp] theorem State.acceptRead_wire (s : State) : (s.acceptRead).wire = s.wire := rfl
@[simp] theorem State.acceptRead_moves (s : State) : (s.acceptRead).moves = s.moves := rfl
@[simp] theorem State.acceptRead_pf (s : State) : (s.acceptRead).pf = s.pf := rfl
@[simp] theorem State.acceptRead_rx (s : State) : (s.acceptRead).rx = s.rx := rfl
@[simp] theorem State.acceptRead_freePulls (s : State) : (s.acceptRead).freePulls = s.freePulls := rfl
@[simp] theorem State.acceptRead_handed (s : State) : (s.acceptRead).handed = s.handed := rfl
@[simp] theorem State.acceptRead_txRoom (s : State) : (s.acceptRead).txRoom = s.txRoom := rfl
@[simp] theorem State.acceptRead_tx (s : State) : (s.acceptRead).tx = s.tx := rfl
@[simp] theorem State.acceptRead_rsp (s : State) : (s.acceptRead).rsp = s.rsp := rfl
@[simp] theorem State.acceptRead_cfgOut (s : State) : (s.acceptRead).cfgOut = s.cfgOut := rfl

/-! ## The reset input (R280) -/

@[simp] theorem State.applyReset_devid (s : State) : (s.applyReset).devid = State.reset.devid := rfl
@[simp] theorem State.applyReset_maxrs (s : State) : (s.applyReset).maxrs = State.reset.maxrs := rfl
@[simp] theorem State.applyReset_rsen (s : State) : (s.applyReset).rsen = State.reset.rsen := rfl
@[simp] theorem State.applyReset_timeout (s : State) : (s.applyReset).timeout = State.reset.timeout := rfl
@[simp] theorem State.applyReset_busy (s : State) : (s.applyReset).busy = State.reset.busy := rfl
@[simp] theorem State.applyReset_op (s : State) : (s.applyReset).op = State.reset.op := rfl
@[simp] theorem State.applyReset_limit (s : State) : (s.applyReset).limit = State.reset.limit := rfl
@[simp] theorem State.applyReset_expect (s : State) : (s.applyReset).expect = State.reset.expect := rfl
@[simp] theorem State.applyReset_txi (s : State) : (s.applyReset).txi = State.reset.txi := rfl
@[simp] theorem State.applyReset_st (s : State) : (s.applyReset).st = State.reset.st := rfl
@[simp] theorem State.applyReset_cnt (s : State) : (s.applyReset).cnt = State.reset.cnt := rfl
@[simp] theorem State.applyReset_rsCnt (s : State) : (s.applyReset).rsCnt = State.reset.rsCnt := rfl
@[simp] theorem State.applyReset_buf (s : State) : (s.applyReset).buf = State.reset.buf := rfl
@[simp] theorem State.applyReset_pend (s : State) : (s.applyReset).pend = State.reset.pend := rfl
@[simp] theorem State.applyReset_cf (s : State) : (s.applyReset).cf = State.reset.cf := rfl
@[simp] theorem State.applyReset_acc (s : State) : (s.applyReset).acc = State.reset.acc := rfl
@[simp] theorem State.applyReset_wire (s : State) : (s.applyReset).wire = s.wire := rfl
@[simp] theorem State.applyReset_moves (s : State) : (s.applyReset).moves = s.moves := rfl
@[simp] theorem State.applyReset_pf (s : State) : (s.applyReset).pf = s.pf := rfl
@[simp] theorem State.applyReset_rx (s : State) : (s.applyReset).rx = s.rx := rfl
@[simp] theorem State.applyReset_freePulls (s : State) : (s.applyReset).freePulls = s.freePulls := rfl
@[simp] theorem State.applyReset_handed (s : State) : (s.applyReset).handed = s.handed := rfl
@[simp] theorem State.applyReset_txRoom (s : State) : (s.applyReset).txRoom = s.txRoom := rfl
@[simp] theorem State.applyReset_tx (s : State) : (s.applyReset).tx = s.tx := rfl
@[simp] theorem State.applyReset_rsp (s : State) : (s.applyReset).rsp = s.rsp := rfl
@[simp] theorem State.applyReset_cfgOut (s : State) : (s.applyReset).cfgOut = s.cfgOut := rfl

/-! ## A request that ends in an error (R250) -/

theorem State.failRequest_of_busy (s : State) (e : ErrorKind) (h : s.busy = true) :
    s.failRequest e = (s.respond (.error e)).endCycle := by simp [State.failRequest, h]
theorem State.failRequest_of_idle (s : State) (e : ErrorKind) (h : s.busy = false) :
    s.failRequest e = s.respond (.error e) := by simp [State.failRequest, h]
@[simp] theorem State.failRequest_busy (s : State) (e : ErrorKind) : (s.failRequest e).busy = false := by
  cases h : s.busy <;> simp [State.failRequest, h]
@[simp] theorem State.failRequest_devid (s : State) (e : ErrorKind) : (s.failRequest e).devid = s.devid := by
  cases h : s.busy <;> simp [State.failRequest, h]
@[simp] theorem State.failRequest_maxrs (s : State) (e : ErrorKind) : (s.failRequest e).maxrs = s.maxrs := by
  cases h : s.busy <;> simp [State.failRequest, h]
@[simp] theorem State.failRequest_rsen (s : State) (e : ErrorKind) : (s.failRequest e).rsen = s.rsen := by
  cases h : s.busy <;> simp [State.failRequest, h]
@[simp] theorem State.failRequest_timeout (s : State) (e : ErrorKind) : (s.failRequest e).timeout = s.timeout := by
  cases h : s.busy <;> simp [State.failRequest, h]
@[simp] theorem State.failRequest_op (s : State) (e : ErrorKind) : (s.failRequest e).op = s.op := by
  cases h : s.busy <;> simp [State.failRequest, h]
@[simp] theorem State.failRequest_limit (s : State) (e : ErrorKind) : (s.failRequest e).limit = s.limit := by
  cases h : s.busy <;> simp [State.failRequest, h]
@[simp] theorem State.failRequest_expect (s : State) (e : ErrorKind) : (s.failRequest e).expect = s.expect := by
  cases h : s.busy <;> simp [State.failRequest, h]
@[simp] theorem State.failRequest_buf (s : State) (e : ErrorKind) : (s.failRequest e).buf = s.buf := by
  cases h : s.busy <;> simp [State.failRequest, h]
@[simp] theorem State.failRequest_cf (s : State) (e : ErrorKind) : (s.failRequest e).cf = s.cf := by
  cases h : s.busy <;> simp [State.failRequest, h]
@[simp] theorem State.failRequest_acc (s : State) (e : ErrorKind) : (s.failRequest e).acc = s.acc := by
  cases h : s.busy <;> simp [State.failRequest, h]
@[simp] theorem State.failRequest_wire (s : State) (e : ErrorKind) : (s.failRequest e).wire = s.wire := by
  cases h : s.busy <;> simp [State.failRequest, h]
@[simp] theorem State.failRequest_moves (s : State) (e : ErrorKind) : (s.failRequest e).moves = s.moves := by
  cases h : s.busy <;> simp [State.failRequest, h]
@[simp] theorem State.failRequest_pf (s : State) (e : ErrorKind) : (s.failRequest e).pf = s.pf := by
  cases h : s.busy <;> simp [State.failRequest, h]
@[simp] theorem State.failRequest_rx (s : State) (e : ErrorKind) : (s.failRequest e).rx = s.rx := by
  cases h : s.busy <;> simp [State.failRequest, h]
@[simp] theorem State.failRequest_freePulls (s : State) (e : ErrorKind) : (s.failRequest e).freePulls = s.freePulls := by
  cases h : s.busy <;> simp [State.failRequest, h]
@[simp] theorem State.failRequest_handed (s : State) (e : ErrorKind) : (s.failRequest e).handed = s.handed := by
  cases h : s.busy <;> simp [State.failRequest, h]
@[simp] theorem State.failRequest_txRoom (s : State) (e : ErrorKind) : (s.failRequest e).txRoom = s.txRoom := by
  cases h : s.busy <;> simp [State.failRequest, h]
@[simp] theorem State.failRequest_tx (s : State) (e : ErrorKind) : (s.failRequest e).tx = s.tx := by
  cases h : s.busy <;> simp [State.failRequest, h]
@[simp] theorem State.failRequest_rsp (s : State) (e : ErrorKind) : (s.failRequest e).rsp = s.rsp ++ [.error e] := by
  cases h : s.busy <;> simp [State.failRequest, h]
@[simp] theorem State.failRequest_cfgOut (s : State) (e : ErrorKind) : (s.failRequest e).cfgOut = s.cfgOut := by
  cases h : s.busy <;> simp [State.failRequest, h]

end Sys2Proof.Machine
end

