-- ==== Sys2Proof/Laws/Ops.lean ====
section
/-! SUPPORT. For each shared operation, once, everything it can do. -/

namespace Sys2Proof.Machine

/-- What a pull can answer and change (R51, R52). -/
theorem State.rxPull_cases (s : State) :
    (∃ a rest, s.rx = a :: rest ∧ s.rxPull = (a, { s with rx := rest, handed := some s.timeout })) ∨
    (s.rx = [] ∧ s.rxPull =
      (Config.rxAnswer s.freePulls, { s with freePulls := s.freePulls + 1, handed := some s.timeout })) := by
  unfold State.rxPull
  cases h : s.rx with
  | nil => exact .inr ⟨rfl, rfl⟩
  | cons a rest => exact .inl ⟨a, rest, rfl, rfl⟩

/-- Where the next byte of the scan comes from (R172). -/
theorem State.nextByte_cases (s : State) :
    (∃ b rest, s.pend = b :: rest ∧ s.nextByte = (.byte b, { s with pend := rest })) ∨
    (s.pend = [] ∧ s.nextByte = s.rxPull) := by
  unfold State.nextByte
  cases h : s.pend with
  | nil => exact .inr ⟨rfl, rfl⟩
  | cons b rest => exact .inl ⟨b, rest, rfl, rfl⟩

/-! ## What a pull and `NextByte` leave alone (R51, R172) -/

@[simp] theorem State.rxPull_devid (s : State) : s.rxPull.2.devid = s.devid := by
  rcases s.rxPull_cases with ⟨_, _, _, h⟩ | ⟨_, h⟩ <;> rw [h]
@[simp] theorem State.rxPull_maxrs (s : State) : s.rxPull.2.maxrs = s.maxrs := by
  rcases s.rxPull_cases with ⟨_, _, _, h⟩ | ⟨_, h⟩ <;> rw [h]
@[simp] theorem State.rxPull_rsen (s : State) : s.rxPull.2.rsen = s.rsen := by
  rcases s.rxPull_cases with ⟨_, _, _, h⟩ | ⟨_, h⟩ <;> rw [h]
@[simp] theorem State.rxPull_timeout (s : State) : s.rxPull.2.timeout = s.timeout := by
  rcases s.rxPull_cases with ⟨_, _, _, h⟩ | ⟨_, h⟩ <;> rw [h]
@[simp] theorem State.rxPull_busy (s : State) : s.rxPull.2.busy = s.busy := by
  rcases s.rxPull_cases with ⟨_, _, _, h⟩ | ⟨_, h⟩ <;> rw [h]
@[simp] theorem State.rxPull_op (s : State) : s.rxPull.2.op = s.op := by
  rcases s.rxPull_cases with ⟨_, _, _, h⟩ | ⟨_, h⟩ <;> rw [h]
@[simp] theorem State.rxPull_limit (s : State) : s.rxPull.2.limit = s.limit := by
  rcases s.rxPull_cases with ⟨_, _, _, h⟩ | ⟨_, h⟩ <;> rw [h]
@[simp] theorem State.rxPull_expect (s : State) : s.rxPull.2.expect = s.expect := by
  rcases s.rxPull_cases with ⟨_, _, _, h⟩ | ⟨_, h⟩ <;> rw [h]
@[simp] theorem State.rxPull_txi (s : State) : s.rxPull.2.txi = s.txi := by
  rcases s.rxPull_cases with ⟨_, _, _, h⟩ | ⟨_, h⟩ <;> rw [h]
@[simp] theorem State.rxPull_st (s : State) : s.rxPull.2.st = s.st := by
  rcases s.rxPull_cases with ⟨_, _, _, h⟩ | ⟨_, h⟩ <;> rw [h]
@[simp] theorem State.rxPull_cnt (s : State) : s.rxPull.2.cnt = s.cnt := by
  rcases s.rxPull_cases with ⟨_, _, _, h⟩ | ⟨_, h⟩ <;> rw [h]
@[simp] theorem State.rxPull_rsCnt (s : State) : s.rxPull.2.rsCnt = s.rsCnt := by
  rcases s.rxPull_cases with ⟨_, _, _, h⟩ | ⟨_, h⟩ <;> rw [h]
@[simp] theorem State.rxPull_buf (s : State) : s.rxPull.2.buf = s.buf := by
  rcases s.rxPull_cases with ⟨_, _, _, h⟩ | ⟨_, h⟩ <;> rw [h]
@[simp] theorem State.rxPull_pend (s : State) : s.rxPull.2.pend = s.pend := by
  rcases s.rxPull_cases with ⟨_, _, _, h⟩ | ⟨_, h⟩ <;> rw [h]
@[simp] theorem State.rxPull_cf (s : State) : s.rxPull.2.cf = s.cf := by
  rcases s.rxPull_cases with ⟨_, _, _, h⟩ | ⟨_, h⟩ <;> rw [h]
@[simp] theorem State.rxPull_acc (s : State) : s.rxPull.2.acc = s.acc := by
  rcases s.rxPull_cases with ⟨_, _, _, h⟩ | ⟨_, h⟩ <;> rw [h]
@[simp] theorem State.rxPull_wire (s : State) : s.rxPull.2.wire = s.wire := by
  rcases s.rxPull_cases with ⟨_, _, _, h⟩ | ⟨_, h⟩ <;> rw [h]
@[simp] theorem State.rxPull_moves (s : State) : s.rxPull.2.moves = s.moves := by
  rcases s.rxPull_cases with ⟨_, _, _, h⟩ | ⟨_, h⟩ <;> rw [h]
@[simp] theorem State.rxPull_pf (s : State) : s.rxPull.2.pf = s.pf := by
  rcases s.rxPull_cases with ⟨_, _, _, h⟩ | ⟨_, h⟩ <;> rw [h]
@[simp] theorem State.rxPull_txRoom (s : State) : s.rxPull.2.txRoom = s.txRoom := by
  rcases s.rxPull_cases with ⟨_, _, _, h⟩ | ⟨_, h⟩ <;> rw [h]
@[simp] theorem State.rxPull_tx (s : State) : s.rxPull.2.tx = s.tx := by
  rcases s.rxPull_cases with ⟨_, _, _, h⟩ | ⟨_, h⟩ <;> rw [h]
@[simp] theorem State.rxPull_rsp (s : State) : s.rxPull.2.rsp = s.rsp := by
  rcases s.rxPull_cases with ⟨_, _, _, h⟩ | ⟨_, h⟩ <;> rw [h]
@[simp] theorem State.rxPull_cfgOut (s : State) : s.rxPull.2.cfgOut = s.cfgOut := by
  rcases s.rxPull_cases with ⟨_, _, _, h⟩ | ⟨_, h⟩ <;> rw [h]

/-- The replay queue is drained from the front (R26, R172). -/
@[simp] theorem State.nextByte_pend (s : State) : s.nextByte.2.pend = s.pend.tail := by
  rcases s.nextByte_cases with ⟨_, _, hp, h⟩ | ⟨hp, h⟩ <;> simp [h, hp]

@[simp] theorem State.nextByte_devid (s : State) : s.nextByte.2.devid = s.devid := by
  rcases s.nextByte_cases with ⟨_, _, _, h⟩ | ⟨_, h⟩ <;> simp [h]
@[simp] theorem State.nextByte_maxrs (s : State) : s.nextByte.2.maxrs = s.maxrs := by
  rcases s.nextByte_cases with ⟨_, _, _, h⟩ | ⟨_, h⟩ <;> simp [h]
@[simp] theorem State.nextByte_rsen (s : State) : s.nextByte.2.rsen = s.rsen := by
  rcases s.nextByte_cases with ⟨_, _, _, h⟩ | ⟨_, h⟩ <;> simp [h]
@[simp] theorem State.nextByte_timeout (s : State) : s.nextByte.2.timeout = s.timeout := by
  rcases s.nextByte_cases with ⟨_, _, _, h⟩ | ⟨_, h⟩ <;> simp [h]
@[simp] theorem State.nextByte_busy (s : State) : s.nextByte.2.busy = s.busy := by
  rcases s.nextByte_cases with ⟨_, _, _, h⟩ | ⟨_, h⟩ <;> simp [h]
@[simp] theorem State.nextByte_op (s : State) : s.nextByte.2.op = s.op := by
  rcases s.nextByte_cases with ⟨_, _, _, h⟩ | ⟨_, h⟩ <;> simp [h]
@[simp] theorem State.nextByte_limit (s : State) : s.nextByte.2.limit = s.limit := by
  rcases s.nextByte_cases with ⟨_, _, _, h⟩ | ⟨_, h⟩ <;> simp [h]
@[simp] theorem State.nextByte_expect (s : State) : s.nextByte.2.expect = s.expect := by
  rcases s.nextByte_cases with ⟨_, _, _, h⟩ | ⟨_, h⟩ <;> simp [h]
@[simp] theorem State.nextByte_txi (s : State) : s.nextByte.2.txi = s.txi := by
  rcases s.nextByte_cases with ⟨_, _, _, h⟩ | ⟨_, h⟩ <;> simp [h]
@[simp] theorem State.nextByte_st (s : State) : s.nextByte.2.st = s.st := by
  rcases s.nextByte_cases with ⟨_, _, _, h⟩ | ⟨_, h⟩ <;> simp [h]
@[simp] theorem State.nextByte_cnt (s : State) : s.nextByte.2.cnt = s.cnt := by
  rcases s.nextByte_cases with ⟨_, _, _, h⟩ | ⟨_, h⟩ <;> simp [h]
@[simp] theorem State.nextByte_rsCnt (s : State) : s.nextByte.2.rsCnt = s.rsCnt := by
  rcases s.nextByte_cases with ⟨_, _, _, h⟩ | ⟨_, h⟩ <;> simp [h]
@[simp] theorem State.nextByte_buf (s : State) : s.nextByte.2.buf = s.buf := by
  rcases s.nextByte_cases with ⟨_, _, _, h⟩ | ⟨_, h⟩ <;> simp [h]
@[simp] theorem State.nextByte_cf (s : State) : s.nextByte.2.cf = s.cf := by
  rcases s.nextByte_cases with ⟨_, _, _, h⟩ | ⟨_, h⟩ <;> simp [h]
@[simp] theorem State.nextByte_acc (s : State) : s.nextByte.2.acc = s.acc := by
  rcases s.nextByte_cases with ⟨_, _, _, h⟩ | ⟨_, h⟩ <;> simp [h]
@[simp] theorem State.nextByte_wire (s : State) : s.nextByte.2.wire = s.wire := by
  rcases s.nextByte_cases with ⟨_, _, _, h⟩ | ⟨_, h⟩ <;> simp [h]
@[simp] theorem State.nextByte_moves (s : State) : s.nextByte.2.moves = s.moves := by
  rcases s.nextByte_cases with ⟨_, _, _, h⟩ | ⟨_, h⟩ <;> simp [h]
@[simp] theorem State.nextByte_pf (s : State) : s.nextByte.2.pf = s.pf := by
  rcases s.nextByte_cases with ⟨_, _, _, h⟩ | ⟨_, h⟩ <;> simp [h]
@[simp] theorem State.nextByte_txRoom (s : State) : s.nextByte.2.txRoom = s.txRoom := by
  rcases s.nextByte_cases with ⟨_, _, _, h⟩ | ⟨_, h⟩ <;> simp [h]
@[simp] theorem State.nextByte_tx (s : State) : s.nextByte.2.tx = s.tx := by
  rcases s.nextByte_cases with ⟨_, _, _, h⟩ | ⟨_, h⟩ <;> simp [h]
@[simp] theorem State.nextByte_rsp (s : State) : s.nextByte.2.rsp = s.rsp := by
  rcases s.nextByte_cases with ⟨_, _, _, h⟩ | ⟨_, h⟩ <;> simp [h]
@[simp] theorem State.nextByte_cfgOut (s : State) : s.nextByte.2.cfgOut = s.cfgOut := by
  rcases s.nextByte_cases with ⟨_, _, _, h⟩ | ⟨_, h⟩ <;> simp [h]

/-- `NextByte` touches `pend` and the transport's answers, nothing else. -/
theorem State.nextByte_frame (s : State) : ∃ p r n h,
    s.nextByte.2 = { s with pend := p, rx := r, freePulls := n, handed := h } := by
  rcases s.nextByte_cases with ⟨b, rest, _, h⟩ | ⟨_, h⟩
  · exact ⟨rest, s.rx, s.freePulls, s.handed, by rw [h]⟩
  · rcases s.rxPull_cases with ⟨a, rest, _, h'⟩ | ⟨_, h'⟩
    · exact ⟨s.pend, rest, s.freePulls, some s.timeout, by rw [h, h']⟩
    · exact ⟨s.pend, s.rx, s.freePulls + 1, some s.timeout, by rw [h, h']⟩

/-- A `Timeout` can come only when the replay queue is empty (R177). -/
theorem State.nextByte_timeout_pend (s : State) (h : s.nextByte.1 = .timeout) : s.pend = [] := by
  rcases s.nextByte_cases with ⟨b, rest, _, h'⟩ | ⟨hp, _⟩
  · simp [h'] at h
  · exact hp

/-- What a push can do (R53, R296). -/
theorem State.txPush_cases (s : State) (b : Byte) :
    (s.txRoom = some 0 ∧ s.txPush b = none) ∨
    (∃ room, s.txRoom ≠ some 0 ∧ s.txPush b = some { s with tx := s.tx ++ [b], txRoom := room } ∧
      room = s.txRoom.map (· - 1)) := by
  unfold State.txPush
  rcases h : s.txRoom with _ | _ | n
  · exact .inr ⟨none, by simp, by simp [← h], rfl⟩
  · exact .inl ⟨rfl, rfl⟩
  · exact .inr ⟨some n, by simp, rfl, by simp⟩

/-- The write step where the transport accepts (R202). -/
theorem State.writeStep_push (s : State) (f : Vector Byte 19) (h : s.Writing) (hr : s.txRoom ≠ some 0) :
    s.writeStep f =
      { s with tx := s.tx ++ [f[s.txi]'h.2.2], txRoom := s.txRoom.map (· - 1), txi := s.txi + 1 } := by
  rcases s.txPush_cases (f[s.txi]'h.2.2) with ⟨h0, _⟩ | ⟨room, _, hp, rfl⟩
  · exact absurd h0 hr
  · simp only [State.writeStep, dif_pos h, hp]

/-- The write step where the transport accepts no more: the state stays (R296). -/
theorem State.writeStep_stuck (s : State) (f : Vector Byte 19) (hr : s.txRoom = some 0) : s.writeStep f = s := by
  unfold State.writeStep State.txPush
  split
  · rw [hr]
  · rfl

/-- The write step where it is not enabled. -/
theorem State.writeStep_disabled (s : State) (f : Vector Byte 19) (h : ¬ s.Writing) : s.writeStep f = s :=
  dif_neg h

/-- What the write step may change (R202). -/
theorem State.writeStep_frame (s : State) (f : Vector Byte 19) : ∃ l room n,
    s.writeStep f = { s with tx := l, txRoom := room, txi := n } := by
  by_cases hw : s.Writing
  · by_cases hr : s.txRoom = some 0
    · exact ⟨s.tx, s.txRoom, s.txi, s.writeStep_stuck f hr⟩
    · exact ⟨_, _, _, s.writeStep_push f hw hr⟩
  · exact ⟨s.tx, s.txRoom, s.txi, s.writeStep_disabled f hw⟩

/-- How a `Timeout` ends a running cycle (R177, R204). -/
theorem State.timeoutExit_eq (s : State) :
    s.timeoutExit = s.failRequest (if s.op = .xchg then .notAcknowledged else .timeout) := by
  unfold State.timeoutExit; cases s.op <;> rfl

/-- No number of failures reaches an unbounded limit (R176). -/
@[simp] theorem Limit.reached_unbounded (n : Nat) : Limit.unbounded.reached n = false := rfl

/-- The limit `N` is reached at `N` attempts (R176). -/
@[simp] theorem Limit.reached_atMost (N n : Nat) : (Limit.atMost N).reached n = decide (N ≤ n) := rfl

/-- What `Resync` does (R176). -/
theorem State.resync_cases (s : State) (f : Vector Byte 10) :
    (s.limit.reached s.rsCnt = true ∧ s.resync f = s.failRequest .desyncExceeded) ∨
    (s.limit.reached s.rsCnt = false ∧
      s.resync f = { s with rsCnt := s.rsCnt + 1, pend := f.toList.drop 1, cnt := 0, st := .seekHead }) := by
  unfold State.resync
  cases h : s.limit.reached s.rsCnt
  · exact .inr ⟨rfl, by simp⟩
  · exact .inl ⟨rfl, by simp⟩

/-- What the `SEEK_HEAD` step does where it is enabled (R173). -/
theorem State.seekHeadStep_cases (s : State) (h : s.Seeking) :
    (s.nextByte.1 = .timeout ∧ s.seekHeadStep = s.nextByte.2.timeoutExit) ∨
    (∃ b, b ≠ headByte ∧ s.nextByte.1 = .byte b ∧ s.seekHeadStep = s.nextByte.2) ∨
    (s.nextByte.1 = .byte headByte ∧
      s.seekHeadStep =
        { s.nextByte.2 with buf := s.nextByte.2.buf.setIfInBounds 0 headByte, cnt := 1, st := .readBody }) := by
  unfold State.seekHeadStep
  rw [if_pos h]
  rcases s.nextByte with ⟨_ | _, s'⟩
  · rename_i b
    by_cases hb : b = headByte
    · subst hb; exact .inr (.inr ⟨rfl, by simp⟩)
    · exact .inr (.inl ⟨b, hb, rfl, by simp [hb]⟩)
  · exact .inl ⟨rfl, rfl⟩

/-- What the `READ_BODY` step does where it is enabled (R174). -/
theorem State.readBodyStep_cases (s : State) (h : s.ReadingBody) :
    (s.nextByte.1 = .timeout ∧ s.readBodyStep = s.nextByte.2.timeoutExit) ∨
    (∃ b, s.nextByte.1 = .byte b ∧
      s.readBodyStep =
        { s.nextByte.2 with
          buf := s.nextByte.2.buf.setIfInBounds s.nextByte.2.cnt b, cnt := s.nextByte.2.cnt + 1,
          st := if s.nextByte.2.cnt + 1 = 10 then .validate else .readBody }) := by
  unfold State.readBodyStep
  rw [if_pos h]
  rcases s.nextByte with ⟨_ | _, s'⟩
  · exact .inr ⟨_, rfl, rfl⟩
  · exact .inl ⟨rfl, rfl⟩

/-- What the `VALIDATE` step does where it is enabled (R175): a good candidate ends the cycle, any other goes to
`Resync`. -/
theorem State.validateStep_cases (s : State) (f : Vector Byte 10) (h : s.Validating) :
    (∃ v1 v2, parse f.toList = .ok (v1, v2) ∧ f[1] = s.expect ∧
      s.validateStep f = (s.latchSum (dataRange f.toList)).finishCycle (.reading f v1 v2)) ∨
    (((∀ v, parse f.toList ≠ .ok v) ∨ f[1] ≠ s.expect) ∧
      s.validateStep f = (s.latchSum (dataRange f.toList)).resync f) := by
  unfold State.validateStep
  rw [if_pos h]
  rcases parse f.toList with e | ⟨v1, v2⟩
  · exact .inr ⟨.inl (by simp), rfl⟩
  · by_cases hx : f[1] = s.expect
    · exact .inl ⟨v1, v2, rfl, hx, by simp [hx]⟩
    · exact .inr ⟨.inr hx, by simp [hx]⟩

/-- What acceptance gates (R24). -/
@[simp] theorem State.whenIdle_busy (s : State) (k : State → State) (h : s.busy = true) : s.whenIdle k = s := by
  simp [State.whenIdle, h]

/-- What acceptance lets through (R24). -/
@[simp] theorem State.whenIdle_idle (s : State) (k : State → State) (h : s.busy = false) : s.whenIdle k = k s := by
  simp [State.whenIdle, h]

/-- What a BUILD request does (R130). -/
theorem State.serveBuild_cases (s : State) (k : Kind) (dir : Direction) (p : Byte) :
    (∃ f, build s.wire k dir p s.devid = .ok f ∧
      s.serveBuild k dir p = (s.latchSum (commandRange f)).respond (.ok (.commandFrame f))) ∨
    (∃ e, build s.wire k dir p s.devid = .error e ∧ s.serveBuild k dir p = s.failRequest e) := by
  unfold State.serveBuild
  rcases build s.wire k dir p s.devid with e | f
  · exact .inr ⟨e, rfl, rfl⟩
  · exact .inl ⟨f, rfl, rfl⟩

/-- What accepting an XCHG request does (R201). -/
theorem State.acceptExchange_cases (s : State) (k : Kind) (dir : Direction) (p : Byte) :
    (∃ f, build s.wire k dir p s.devid = .ok f ∧
      s.acceptExchange k dir p =
        { s.latchSum (commandRange f) with
          cf := f, busy := true, op := .xchg, txi := 0, limit := .atMost 0, expect := replyNumber s.wire k,
          st := .seekHead, cnt := 0, pend := [], rsCnt := 0 }) ∨
    (∃ e, build s.wire k dir p s.devid = .error e ∧ s.acceptExchange k dir p = s.failRequest e) := by
  unfold State.acceptExchange
  rcases build s.wire k dir p s.devid with e | f
  · exact .inr ⟨e, rfl, rfl⟩
  · exact .inl ⟨f, rfl, rfl⟩

/-- What a PARSE request does (R150): it answers, and of the state only the accumulator may move (R122). -/
theorem State.serveParse_cases (s : State) : ∃ a,
    (∃ v1 v2, parse s.pf = .ok (v1, v2) ∧
      s.serveParse = ({ s with acc := a } : State).respond (.ok (.values v1 v2))) ∨
    (∃ e, parse s.pf = .error e ∧ s.serveParse = ({ s with acc := a } : State).failRequest e) := by
  unfold State.serveParse
  refine ⟨if s.pf.length = 10 then (dataRange s.pf).foldl accumulate 0 else s.acc, ?_⟩
  rcases parse s.pf with e | ⟨v1, v2⟩
  · refine .inr ⟨e, rfl, ?_⟩
    by_cases h : s.pf.length = 10
    · simp only [if_pos h]; rfl
    · simp only [if_neg h]
  · refine .inl ⟨v1, v2, rfl, ?_⟩
    by_cases h : s.pf.length = 10
    · simp only [if_pos h]; rfl
    · simp only [if_neg h]

/-- What a write of a configuration register leaves alone (R222). -/
theorem State.writeConfig_frame (s : State) (r : ConfigReg) (v : Word) : ∃ d m e t,
    s.writeConfig r v = { s with devid := d, maxrs := m, rsen := e, timeout := t } := by
  cases r
  · exact ⟨_, s.maxrs, s.rsen, s.timeout, rfl⟩
  · exact ⟨s.devid, _, s.rsen, s.timeout, rfl⟩
  · exact ⟨s.devid, s.maxrs, _, s.timeout, rfl⟩
  · exact ⟨s.devid, s.maxrs, s.rsen, _, rfl⟩

/-- What the block does by itself (R179, R286), with the operation it runs where there is one. -/
theorem State.fetchOwn_cases (s : State) :
    (s.Writing ∧ ((∃ i, decodeCommandFrame s.wire s.cf.toList = .ok i ∧ s.fetchOwn = .run i s) ∨
      s.fetchOwn = .own (s.writeStep s.cf))) ∨
    (¬ s.Writing ∧ s.st = .seekHead ∧ s.fetchOwn = .own s.seekHeadStep) ∨
    (¬ s.Writing ∧ s.st = .readBody ∧ s.fetchOwn = .own s.readBodyStep) ∨
    (¬ s.Writing ∧ s.Validating ∧ ((∃ i, decodeDataFrame s.buf.toList = .ok i ∧ s.fetchOwn = .run i s) ∨
      s.fetchOwn = .own (s.validateStep s.buf))) ∨
    (¬ s.Writing ∧ s.busy = false ∧ s.fetchOwn = .own s) := by
  unfold State.fetchOwn
  by_cases hw : s.Writing
  · rw [if_pos hw]
    refine .inl ⟨hw, ?_⟩
    rcases decodeCommandFrame s.wire s.cf.toList with e | i
    · exact .inr rfl
    · exact .inl ⟨i, rfl, rfl⟩
  · rw [if_neg hw]
    rcases hst : s.st with _ | _ | _
    · exact .inr (.inl ⟨hw, rfl, rfl⟩)
    · exact .inr (.inr (.inl ⟨hw, rfl, rfl⟩))
    · cases hb : s.busy
      · exact .inr (.inr (.inr (.inr ⟨hw, rfl, rfl⟩)))
      · refine .inr (.inr (.inr (.inl ⟨hw, ⟨hb, hst⟩, ?_⟩)))
        rcases decodeDataFrame s.buf.toList with e | i
        · exact .inr rfl
        · exact .inl ⟨i, rfl, rfl⟩

/-- Everything `fetch` can answer (R286, R290, R291). -/
theorem State.fetch_cases (s : State) :
    (s.fetch = s.fetchOwn) ∨
    (∃ rest, s.moves = .hold :: rest ∧ s.fetch = ({ s with moves := rest } : State).fetchOwn) ∨
    (∃ rest, s.moves = .reset :: rest ∧ s.fetch = .own ({ s with moves := rest } : State).applyReset) ∨
    (∃ rest, s.moves = .foreign :: rest ∧ s.fetch = .refuse .transportShared) ∨
    (∃ w pf rest, s.moves = .request w pf :: rest ∧ s.busy = false ∧
      s.fetch = .run (decodeRequest w) { s with moves := rest, pf := pf }) ∨
    (∃ wr a d rest, s.moves = .config wr a d :: rest ∧ s.busy = false ∧
      s.fetch = .run (decodeConfig wr a d) { s with moves := rest }) := by
  unfold State.fetch
  rcases hm : s.moves with _ | ⟨m, rest⟩
  · exact .inl rfl
  · cases m with
    | request w pf =>
      cases hb : s.busy
      · exact .inr (.inr (.inr (.inr (.inl ⟨w, pf, rest, rfl, rfl, rfl⟩))))
      · exact .inl rfl
    | config wr a d =>
      cases hb : s.busy
      · exact .inr (.inr (.inr (.inr (.inr ⟨wr, a, d, rest, rfl, rfl, rfl⟩))))
      · exact .inl rfl
    | hold => exact .inr (.inl ⟨rest, rfl, rfl⟩)
    | reset => exact .inr (.inr (.inl ⟨rest, rfl, rfl⟩))
    | foreign => exact .inr (.inr (.inr (.inl ⟨rest, rfl, rfl⟩)))

/-- What a step that answers next has done. -/
theorem step_next (s t : State) (h : step s = .next t) :
    (∃ i s', s.fetch = .run i s' ∧ exec i s' = .next t) ∨ s.fetch = .own t := by
  unfold step at h
  split at h
  · exact .inl ⟨_, _, ‹_›, h⟩
  · cases h; exact .inr ‹_›
  · cases h

end Sys2Proof.Machine
end

