-- ==== Sys2Proof/Laws/PerInstr.lean ====
section
/-! SUPPORT. Statements made per instruction: the width of each instruction's encoding is the width its row has in
spec/opcode_table.json (R102). -/

namespace Sys2Proof.Laws.EncodedWidth

open Sys2Proof.Machine

/-- The bits of a code: eight a byte, sixteen a request word, 1 + 2 + 32 a CFG access (R80, R95, R221). -/
def width : Code → Nat
  | .commandFrame f => 8 * f.length
  | .dataFrame f => 8 * f.length
  | .request _ => 16
  | .config _ _ _ => 35

/-- The width the table gives the instruction's row. -/
def tableWidth : Instr → Nat
  | .cmdSetReportMode _ _ _ _ => 152
  | .cmdQuery _ _ => 152
  | .cmdSetSleep _ _ _ _ => 152
  | .cmdSetWorkPeriod _ _ _ _ => 152
  | .dataMeasurement _ _ _ _ _ _ => 80
  | .dataReply _ _ _ _ _ _ _ => 80
  | .buildSetReportMode _ _ => 16
  | .buildQuery _ _ => 16
  | .buildSetSleep _ _ => 16
  | .buildSetWorkPeriod _ _ => 16
  | .xchgSetReportMode _ _ => 16
  | .xchgQuery _ _ => 16
  | .xchgSetSleep _ _ => 16
  | .xchgSetWorkPeriod _ _ => 16
  | .parse _ _ => 16
  | .read _ _ => 16
  | .reservedOp _ => 16
  | .reservedBit8 _ _ => 16
  | .reservedBit9 _ _ _ => 16
  | .cfgw _ _ => 35
  | .cfgr _ => 35

/-- The encoding of an instruction has the width of its row, whatever the wire constants. -/
def Statement (i : Instr) : Prop := ∀ w : WireConstants, width (encode w i) = tableWidth i

theorem cmdSetReportMode (d m : Byte) (id : Half) (ck : Byte) : Statement (.cmdSetReportMode d m id ck) := fun _ => rfl
theorem cmdQuery (id : Half) (ck : Byte) : Statement (.cmdQuery id ck) := fun _ => rfl
theorem cmdSetSleep (d m : Byte) (id : Half) (ck : Byte) : Statement (.cmdSetSleep d m id ck) := fun _ => rfl
theorem cmdSetWorkPeriod (d : Byte) (t : BitVec 5) (id : Half) (ck : Byte) : Statement (.cmdSetWorkPeriod d t id ck) := fun _ => rfl
theorem dataMeasurement (a b e g : Byte) (id : Half) (ck : Byte) : Statement (.dataMeasurement a b e g id ck) := fun _ => rfl
theorem dataReply (n a b e g : Byte) (id : Half) (ck : Byte) : Statement (.dataReply n a b e g id ck) := fun _ => rfl
theorem buildSetReportMode (dir : Direction) (param : Byte) : Statement (.buildSetReportMode dir param) := fun _ => rfl
theorem buildQuery (dir : Direction) (param : Byte) : Statement (.buildQuery dir param) := fun _ => rfl
theorem buildSetSleep (dir : Direction) (param : Byte) : Statement (.buildSetSleep dir param) := fun _ => rfl
theorem buildSetWorkPeriod (dir : Direction) (param : Byte) : Statement (.buildSetWorkPeriod dir param) := fun _ => rfl
theorem xchgSetReportMode (dir : Direction) (param : Byte) : Statement (.xchgSetReportMode dir param) := fun _ => rfl
theorem xchgQuery (dir : Direction) (param : Byte) : Statement (.xchgQuery dir param) := fun _ => rfl
theorem xchgSetSleep (dir : Direction) (param : Byte) : Statement (.xchgSetSleep dir param) := fun _ => rfl
theorem xchgSetWorkPeriod (dir : Direction) (param : Byte) : Statement (.xchgSetWorkPeriod dir param) := fun _ => rfl
theorem parse (hi : BitVec 3) (lo : Byte) : Statement (.parse hi lo) := fun _ => rfl
theorem read (hi : BitVec 3) (lo : Byte) : Statement (.read hi lo) := fun _ => rfl
theorem reservedOp (rest : BitVec 15) : Statement (.reservedOp rest) := fun _ => rfl
theorem reservedBit8 (hi : BitVec 7) (lo : Byte) : Statement (.reservedBit8 hi lo) := fun _ => rfl
theorem reservedBit9 (hi : BitVec 6) (b : BitVec 1) (lo : Byte) : Statement (.reservedBit9 hi b lo) := fun _ => rfl
theorem cfgw (reg : ConfigReg) (value : Word) : Statement (.cfgw reg value) := fun _ => rfl
theorem cfgr (reg : ConfigReg) : Statement (.cfgr reg) := fun _ => rfl

end Sys2Proof.Laws.EncodedWidth
end

