-- ==== Sys2Proof/Tests/Slice0.lean ====
section
/-! SUPPORT. Tests: ill-formed terms the well-formedness check refuses, words written out from the spec's encodings and
what they decode to, single steps against the vectors of 95_test_vectors.md (the comment names the vector), and a witness
for the hypotheses of each statement. -/

namespace Sys2Proof.Tests

open Sys2Proof.Machine Sys2Proof.Statements

/-- The state after, or the reset state where the step does not answer next. -/
def after : Host.Outcome State Fault Refusal → State
  | .next t => t
  | .fault _ => State.reset
  | .refused _ => State.reset

/-- The defaults of R10. -/
abbrev w0 : WireConstants := WireConstants.sds011

/-- The reset state with TIMEOUT and DEVID set, so that a test sees them. -/
def base : State := { State.reset with devid := 0xA160, timeout := 0x7D0 }

/-- An exchange in its write phase: the frame of vector V-B5, `n` bytes already pushed. -/
def writing (n : Nat) : State :=
  { State.reset with busy := true, op := .xchg, limit := .atMost 0, expect := 0xC0, txi := n,
                     cf := wireFrame 0x04 0 0 0xFFFF }

/-- A READ cycle seeking a head, over the given answers. -/
def seeking (l : Limit) (rx : List RxAnswer) : State :=
  { State.reset with busy := true, limit := l, expect := 0xC0, rx := rx }

/-- A READ cycle with a whole candidate. -/
def candidate (l : Limit) (f : Vector Byte 10) : State :=
  { State.reset with busy := true, limit := l, expect := 0xC0, st := .validate, cnt := 10, buf := f }

/-- Vector V-P1. -/
def goodFrame : Vector Byte 10 := #v[0xAA, 0xC0, 0x13, 0x00, 0x54, 0x00, 0xFF, 0xFF, 0x65, 0xAB]

/-- Vector V-P7: the stored checksum is one too low. -/
def badFrame : Vector Byte 10 := #v[0xAA, 0xC0, 0x13, 0x00, 0x54, 0x00, 0xFF, 0xFF, 0x64, 0xAB]

/-- A READ cycle with limit `N` and `k` attempts behind it, with a whole bad candidate. -/
def afterAttempts (k N : Nat) : State := { candidate (.atMost N) badFrame with rsCnt := k }

/-- Vector V-P18, the reply to SetSleep of vector X3. -/
def sleepReply : Vector Byte 10 := #v[0xAA, 0xC5, 0x06, 0x01, 0x01, 0x00, 0xA1, 0x60, 0x09, 0xAB]

/-- An exchange that expects `0xC5`, with its whole reply. -/
def awaitingReply : State :=
  { candidate (.atMost 0) sleepReply with op := .xchg, txi := 19, expect := 0xC5 }

/-- The bytes of vector T1. -/
def streamT1 : List Byte := [0, 0] ++ badFrame.toList ++ goodFrame.toList

/-- The bytes of vector T1c: the bad checksum is itself a head. -/
def streamT1c : List Byte := [0, 0] ++ (badFrame.set 8 0xAA).toList ++ goodFrame.toList

/-! ## Well-formedness: each check refuses an ill-formed term -/

theorem test_wf_report_mode_ok : wellFormed w0 (.cmdSetReportMode 1 1 0xFFFF 0x02) = true := by decide
theorem test_wf_report_mode_dir : wellFormed w0 (.cmdSetReportMode 2 1 0xFFFF 0x03) = false := by decide
theorem test_wf_report_mode_arg : wellFormed w0 (.cmdSetReportMode 1 2 0xFFFF 0x03) = false := by decide
theorem test_wf_report_mode_ck : wellFormed w0 (.cmdSetReportMode 1 1 0xFFFF 0x03) = false := by decide
theorem test_wf_query_ok : wellFormed w0 (.cmdQuery 0xA160 0x05) = true := by decide
theorem test_wf_query_ck : wellFormed w0 (.cmdQuery 0xA160 0x06) = false := by decide
theorem test_wf_sleep_ok : wellFormed w0 (.cmdSetSleep 1 0 0xFFFF 0x05) = true := by decide
theorem test_wf_sleep_dir : wellFormed w0 (.cmdSetSleep 2 0 0xFFFF 0x06) = false := by decide
theorem test_wf_sleep_arg : wellFormed w0 (.cmdSetSleep 1 2 0xFFFF 0x07) = false := by decide
theorem test_wf_sleep_ck : wellFormed w0 (.cmdSetSleep 1 0 0xFFFF 0x06) = false := by decide
theorem test_wf_work_period_ok : wellFormed w0 (.cmdSetWorkPeriod 1 30 0xFFFF 0x25) = true := by decide
theorem test_wf_work_period_dir : wellFormed w0 (.cmdSetWorkPeriod 2 30 0xFFFF 0x26) = false := by decide
theorem test_wf_work_period_31 : wellFormed w0 (.cmdSetWorkPeriod 1 31 0xFFFF 0x26) = false := by decide
theorem test_wf_work_period_ck : wellFormed w0 (.cmdSetWorkPeriod 1 30 0xFFFF 0x26) = false := by decide
theorem test_wf_reply_ok : wellFormed w0 (.dataReply 0xC5 6 1 1 0 0xA160 9) = true := by decide
theorem test_wf_reply_number : wellFormed w0 (.dataReply 0xC0 6 1 1 0 0xA160 9) = false := by decide
theorem test_wf_bit8_ok : wellFormed w0 (.reservedBit8 0x3F 0) = true := by decide
theorem test_wf_bit8_op : wellFormed w0 (.reservedBit8 0x40 0) = false := by decide
theorem test_wf_bit9_ok : wellFormed w0 (.reservedBit9 0x1F 0 0) = true := by decide
theorem test_wf_bit9_op : wellFormed w0 (.reservedBit9 0x20 0 0) = false := by decide
theorem test_wf_bit9_bit8 : wellFormed w0 (.reservedBit9 0 1 0) = false := by decide

/-! ## Decoding: for every constructor a word written out from the spec's encoding of it -/

/-- V-B1. -/
theorem test_decode_cmd_report_mode : decodeTableWord 152 0xAAB402010100000000000000000000FFFF02AB =
    some (.cmdSetReportMode 0x01 0x01 0xFFFF 0x02) := by decide
/-- V-B18. -/
theorem test_decode_cmd_query : decodeTableWord 152 0xAAB404000000000000000000000000A16005AB =
    some (.cmdQuery 0xA160 0x05) := by decide
/-- V-B7. -/
theorem test_decode_cmd_sleep : decodeTableWord 152 0xAAB406010000000000000000000000FFFF05AB =
    some (.cmdSetSleep 0x01 0x00 0xFFFF 0x05) := by decide
/-- V-B20. -/
theorem test_decode_cmd_work_period : decodeTableWord 152 0xAAB408011E0000000000000000000001022AAB =
    some (.cmdSetWorkPeriod 0x01 30 0x0102 0x2A) := by decide
/-- P1. -/
theorem test_decode_data_measurement : decodeTableWord 80 0xAAC07B00C801A16045AB =
    some (.dataMeasurement 0x7B 0x00 0xC8 0x01 0xA160 0x45) := by decide
/-- V-P18. -/
theorem test_decode_data_reply : decodeTableWord 80 0xAAC506010100A16009AB =
    some (.dataReply 0xC5 0x06 0x01 0x01 0x00 0xA160 0x09) := by decide
/-- V-B1. -/
theorem test_decode_build_report_mode : decodeTableWord 16 0x0401 =
    some (.buildSetReportMode .write 1) := by decide
/-- V-B6. -/
theorem test_decode_build_query : decodeTableWord 16 0x0CC8 =
    some (.buildQuery .write 200) := by decide
/-- V-B8. -/
theorem test_decode_build_sleep : decodeTableWord 16 0x1401 =
    some (.buildSetSleep .write 1) := by decide
/-- V-B14. -/
theorem test_decode_build_work_period : decodeTableWord 16 0x18FF =
    some (.buildSetWorkPeriod .read 255) := by decide
/-- P1. -/
theorem test_decode_xchg_report_mode : decodeTableWord 16 0x6401 =
    some (.xchgSetReportMode .write 1) := by decide
/-- X1. -/
theorem test_decode_xchg_query : decodeTableWord 16 0x6800 =
    some (.xchgQuery .read 0) := by decide
/-- X3. -/
theorem test_decode_xchg_sleep : decodeTableWord 16 0x7401 =
    some (.xchgSetSleep .write 1) := by decide
/-- X5. -/
theorem test_decode_xchg_work_period : decodeTableWord 16 0x7C1F =
    some (.xchgSetWorkPeriod .write 31) := by decide
/-- op 1, bits 12:10 = 101, bits 7:0 = 3 (R95). -/
theorem test_decode_parse : decodeTableWord 16 0b0011010000000011 =
    some (.parse 5 3) := by decide
/-- op 2, bits 12:10 = 110, bits 7:0 = 128 (R95). -/
theorem test_decode_read : decodeTableWord 16 0b0101100010000000 =
    some (.read 6 0x80) := by decide
/-- V-B22. -/
theorem test_decode_reserved_op : decodeTableWord 16 0xA000 =
    some (.reservedOp 0x2000) := by decide
/-- V-B23. -/
theorem test_decode_reserved_bit8 : decodeTableWord 16 0x0900 =
    some (.reservedBit8 0x04 0) := by decide
/-- op 2, bits 12:10 = 011, bit 9 set (R96). -/
theorem test_decode_reserved_bit9 : decodeTableWord 16 0b0100111011111111 =
    some (.reservedBit9 0x13 0 0xFF) := by decide
/-- bit 34 set, address 2 (R221). -/
theorem test_decode_cfgw : decodeTableWord 40 0x60000A160 =
    some (.cfgw .ctrl 0xA160) := by decide
/-- bit 34 clear, address 1 (R221). -/
theorem test_decode_cfgr : decodeTableWord 40 0x100000000 =
    some (.cfgr .maxrs) := by decide
/-- The same frame numbered from the first byte up (log entry 9). -/
theorem test_decode_low_first : decodeTableWord 80 0xAB4560A101C8007BC0AA = decodeTableWord 80 0xAAC07B00C801A16045AB := by
  decide

/-! ## Rejection by name -/

theorem test_reject_length : decodeCommandFrame w0 [0xAA, 0xB4] = .error .wrongLength := by decide
theorem test_reject_head : decodeDataFrame (goodFrame.set 0 0xAB).toList = .error .badHead := by decide
theorem test_reject_tail : decodeDataFrame (goodFrame.set 9 0xAC).toList = .error .badTail := by decide
theorem test_reject_mark : decodeCommandFrame w0 ((wireFrame 4 0 0 0xFFFF).set 1 0xB5).toList = .error .badMark := by
  decide
theorem test_reject_padding : decodeCommandFrame w0 ((wireFrame 4 0 0 0xFFFF).set 14 1).toList = .error .badPadding := by
  decide
theorem test_reject_kind : decodeCommandFrame w0 (wireFrame 5 0 0 0xFFFF).toList = .error .noKind := by decide
theorem test_reject_query_dir : decodeCommandFrame w0 (wireFrame 4 1 0 0xFFFF).toList = .error .noKind := by decide
theorem test_reject_format : codeOfTableWord 17 0 = .error .noFormat := by decide

/-! ## Single steps -/

/-- V-B3: the checksum wraps to 0. -/
theorem test_build_report_mode : (after (exec (.buildSetReportMode .read 0) State.reset)).rsp =
    [.ok (.commandFrame #v[0xAA, 0xB4, 0x02, 0x00, 0x00, 0x00, 0x00, 0x00, 0x00, 0x00, 0x00, 0x00, 0x00, 0x00, 0x00, 0xFF, 0xFF, 0x00, 0xAB])] := by decide
/-- V-B15. -/
theorem test_build_report_mode_2 : (after (exec (.buildSetReportMode .write 2) State.reset)).rsp =
    [.error .invalidParameter] := by decide
/-- V-B18. -/
theorem test_build_query : (after (exec (.buildQuery .write 200) base)).rsp =
    [.ok (.commandFrame #v[0xAA, 0xB4, 0x04, 0x00, 0x00, 0x00, 0x00, 0x00, 0x00, 0x00, 0x00, 0x00, 0x00, 0x00, 0x00, 0xA1, 0x60, 0x05, 0xAB])] := by decide
/-- V-B8. -/
theorem test_build_sleep : (after (exec (.buildSetSleep .write 1) State.reset)).rsp =
    [.ok (.commandFrame #v[0xAA, 0xB4, 0x06, 0x01, 0x01, 0x00, 0x00, 0x00, 0x00, 0x00, 0x00, 0x00, 0x00, 0x00, 0x00, 0xFF, 0xFF, 0x06, 0xAB])] := by decide
/-- V-B16. -/
theorem test_build_sleep_255 : (after (exec (.buildSetSleep .write 255) State.reset)).rsp =
    [.error .invalidParameter] := by decide
/-- V-B17. -/
theorem test_build_work_period : (after (exec (.buildSetWorkPeriod .write 5) base)).rsp =
    [.ok (.commandFrame #v[0xAA, 0xB4, 0x08, 0x01, 0x05, 0x00, 0x00, 0x00, 0x00, 0x00, 0x00, 0x00, 0x00, 0x00, 0x00, 0xA1, 0x60, 0x0F, 0xAB])] := by decide
/-- V-B12. -/
theorem test_build_work_period_31 : (after (exec (.buildSetWorkPeriod .write 31) State.reset)).rsp =
    [.error .invalidParameter] := by decide
/-- P1 request 3: cf and expect. -/
theorem test_xchg_report_mode : ((after (exec (.xchgSetReportMode .write 1) State.reset)).cf, (after (exec (.xchgSetReportMode .write 1) State.reset)).expect) =
    (#v[0xAA, 0xB4, 0x02, 0x01, 0x01, 0x00, 0x00, 0x00, 0x00, 0x00, 0x00, 0x00, 0x00, 0x00, 0x00, 0xFF, 0xFF, 0x02, 0xAB], 0xC5) := by decide
/-- X1: expect and limit. -/
theorem test_xchg_query : ((after (exec (.xchgQuery .read 0) State.reset)).expect, (after (exec (.xchgQuery .read 0) State.reset)).limit) =
    (0xC0, .atMost 0) := by decide
/-- X3: cf. -/
theorem test_xchg_sleep : (after (exec (.xchgSetSleep .write 1) State.reset)).cf =
    #v[0xAA, 0xB4, 0x06, 0x01, 0x01, 0x00, 0x00, 0x00, 0x00, 0x00, 0x00, 0x00, 0x00, 0x00, 0x00, 0xFF, 0xFF, 0x06, 0xAB] := by decide
/-- X5: nothing begins. -/
theorem test_xchg_work_period_31 : ((after (exec (.xchgSetWorkPeriod .write 31) base)).rsp, (after (exec (.xchgSetWorkPeriod .write 31) base)).busy) =
    ([.error .invalidParameter], false) := by decide
/-- V-P4: byte order. -/
theorem test_parse_good : (after (exec (.parse 0 0) { base with pf := [0xAA, 0xC0, 0x00, 0x01, 0x01, 0x00, 0xA1, 0x60, 0x03, 0xAB] })).rsp =
    [.ok (.values 256 1)] := by decide
/-- V-P8: checksum before tail. -/
theorem test_parse_both_faults : (after (exec (.parse 0 0) { base with pf := [0xAA, 0xC0, 0x13, 0x00, 0x54, 0x00, 0xFF, 0xFF, 0x64, 0xAC] })).rsp =
    [.error .checksumMismatch] := by decide
/-- R170, R224. -/
theorem test_read_bounded : (after (exec (.read 0 0) { base with rsen := true, maxrs := 3 })).limit =
    .atMost 3 := by decide
/-- R170. -/
theorem test_read_unbounded : (after (exec (.read 0 0) { base with maxrs := 3 })).limit =
    .unbounded := by decide
/-- V-B22. -/
theorem test_reserved_op : (after (exec (.reservedOp 0x2000) base)).rsp =
    [.error .invalidParameter] := by decide
/-- V-B23. -/
theorem test_reserved_bit8 : (after (exec (.reservedBit8 4 0) base)).rsp =
    [.error .invalidParameter] := by decide
/-- R96. -/
theorem test_reserved_bit9 : (after (exec (.reservedBit9 0 0 0) base)).rsp =
    [.error .invalidParameter] := by decide
/-- V-G3. -/
theorem test_cfgw_devid : (after (exec (.cfgw .devid 0x1234A160) State.reset)).devid =
    0xA160 := by decide
/-- V-G4. -/
theorem test_cfgr_ctrl : (after (exec (.cfgr .ctrl) (after (exec (.cfgw .ctrl 0xFFFFFFFF) State.reset)))).cfgOut =
    [0x00000001] := by decide
/-- V-B1, offset 2. -/
theorem test_cmd_report_mode : (after (exec (.cmdSetReportMode 1 1 0xFFFF 2) (writing 2))).tx =
    [0x02] := by decide
/-- V-B5, offset 17. -/
theorem test_cmd_query : ((after (exec (.cmdQuery 0xFFFF 2) (writing 17))).tx, (after (exec (.cmdQuery 0xFFFF 2) (writing 17))).txi) =
    ([0x02], 18) := by decide
/-- V-B18, offset 15: the high byte of the id first. -/
theorem test_cmd_sleep : (after (exec (.cmdSetSleep 1 0 0xA160 9) (writing 15))).tx =
    [0xA1] := by decide
/-- V-B11, offset 4. -/
theorem test_cmd_work_period : (after (exec (.cmdSetWorkPeriod 1 30 0xFFFF 0x25) (writing 4))).tx =
    [0x1E] := by decide
/-- T1 step 33. -/
theorem test_data_measurement : (after (exec (.dataMeasurement 0x13 0 0x54 0 0xFFFF 0x65) (candidate .unbounded goodFrame))).rsp =
    [.ok (.reading goodFrame 19 84)] := by decide
/-- T1 step 13. -/
theorem test_data_measurement_bad : ((after (exec (.dataMeasurement 0x13 0 0x54 0 0xFFFF 0x64) (candidate .unbounded badFrame))).pend, (after (exec (.dataMeasurement 0x13 0 0x54 0 0xFFFF 0x64) (candidate .unbounded badFrame))).rsCnt) =
    ([0xC0, 0x13, 0x00, 0x54, 0x00, 0xFF, 0xFF, 0x64, 0xAB], 1) := by decide
/-- T1a: with limit 1 the first failure starts an attempt. -/
theorem test_limit_not_reached : ((after (step (afterAttempts 0 1))).st, (after (step (afterAttempts 0 1))).rsCnt) =
    (.seekHead, 1) := by decide
/-- T1d: with limit 1 the second failure ends the cycle. -/
theorem test_limit_reached : (after (step (afterAttempts 1 1))).rsp = [.error .desyncExceeded] := by decide
/-- X3: the reply of an exchange. -/
theorem test_data_reply_good : (after (exec (.dataReply 0xC5 6 1 1 0 0xA160 9) awaitingReply)).rsp =
    [.ok (.reading sleepReply 262 1)] := by decide
/-- T8 with limit 0: a valid frame with an unexpected command number. -/
theorem test_data_reply_unexpected : (after (exec (.dataReply 0xC5 6 1 1 0 0xA160 9) (candidate (.atMost 0) goodFrame))).rsp =
    [.error .desyncExceeded] := by decide
/-- R173. -/
theorem test_seek_skips : ((after (step (seeking .unbounded [.byte 0xAB, .byte 0xAA]))).st, (after (step (seeking .unbounded [.byte 0xAB]))).rx) =
    (.seekHead, []) := by decide
/-- R173. -/
theorem test_seek_takes : ((after (step (seeking .unbounded [.byte 0xAA]))).st, (after (step (seeking .unbounded [.byte 0xAA]))).cnt) =
    (.readBody, 1) := by decide
/-- X2. -/
theorem test_timeout_of_exchange : (after (step { writing 19 with rx := [.timeout] })).rsp =
    [.error .notAcknowledged] := by decide
/-- X11. -/
theorem test_stalled : (after (step { writing 7 with txRoom := some 0 })).txi =
    7 := by decide
/-- T1a, T1b, T1c, T1d: the closed form on both sides of the bound. -/
theorem test_closed_form : closedForm 0xC0 (.atMost 1) streamT1 = .found 12 ∧
    closedForm 0xC0 (.atMost 0) streamT1 = .desynced 2 ∧ closedForm 0xC0 .unbounded streamT1c = .found 12 ∧
    closedForm 0xC0 (.atMost 1) streamT1c = .desynced 10 := by decide
/-- T5, T6. -/
theorem test_closed_form_timeout : closedForm 0xC0 .unbounded [0, 1, 2, 0xAB, 0xC0] = .timedOut ∧
    closedForm 0xC0 .unbounded [0xAA, 0xC0, 0x13, 0, 0x54] = .timedOut := by decide
/-- R28, R29. -/
theorem test_pull_hands_timeout : (after (step { seeking .unbounded [.byte 0] with timeout := 2000 })).handed =
    some 2000 := by decide
/-- The step runs the word the host asks for first after reset (log entry 10). -/
theorem test_fetch_build : (after (step (State.reset.withFetchWord 16 0x1C1F))).rsp = [.error .invalidParameter] := by
  decide
/-- The same for a command frame: its first byte is pushed. -/
theorem test_fetch_cmd : (after (step (State.reset.withFetchWord 152
    0xAAB404000000000000000000000000FFFF02AB))).tx = [0xAA] := by decide

/-! ## Witnesses: states and operands that meet the hypotheses of the statements -/

theorem witness_DecodeOfEncodeGivesItBack : wellFormed w0 (.reservedBit9 0x1F 0 0xFF) = true ∧ isCommandFrame (.reservedBit9 0x1F 0 0xFF) = false := by decide
theorem witness_DecodeOfEncodeGivesCommandFrameBack : w0.KindIdsDistinct ∧ wellFormed w0 (.cmdSetWorkPeriod 1 30 0xFFFF 0x25) = true ∧
    isCommandFrame (.cmdSetWorkPeriod 1 30 0xFFFF 0x25) = true := by decide
theorem witness_EncodeOfDecodeGivesBitsBack : decode w0 (.config false 3 0) = .ok (.cfgr .timeout) ∧
    ∀ a d, Code.config false 3 0 = .config false a d → d = 0 := ⟨by decide, fun _ _ h => by cases h; rfl⟩
theorem witness_StepRuns_request : ∃ s : State, s.moves = [.request 0x4000 []] ∧ s.busy = false := ⟨{ State.reset with moves := [.request 0x4000 []] }, by decide⟩
theorem witness_StepRuns_config : ∃ s : State, s.moves = [.config true 3 5] ∧ s.busy = false := ⟨{ State.reset with moves := [.config true 3 5] }, by decide⟩
theorem witness_StepRuns_command : blockTurn (writing 18) = true ∧ (writing 18).Writing ∧
    decode w0 (.commandFrame (writing 18).cf.toList) = .ok (.cmdQuery 0xFFFF 2) := by decide
theorem witness_StepRuns_data : blockTurn (candidate .unbounded goodFrame) = true ∧ ¬ (candidate .unbounded goodFrame).Writing ∧
    (candidate .unbounded goodFrame).Validating ∧
    decode w0 (.dataFrame (candidate .unbounded goodFrame).buf.toList) = .ok (.dataMeasurement 0x13 0 0x54 0 0xFFFF 0x65) := by decide
theorem witness_StepRuns_hold : ∃ s : State, s.moves = .hold :: [] ∧ blockTurn { s with moves := [] } = true := ⟨{ State.reset with moves := [.hold] }, by decide⟩
theorem witness_NoRequestMakesTheBlockFault_foreign : ∃ s : State, s.moves = .foreign :: [] := ⟨{ State.reset with moves := [.foreign] }, rfl⟩
theorem witness_NoRequestMakesTheBlockFault_other : ∀ rest, State.reset.moves ≠ .foreign :: rest := fun _ h => (by cases h)
theorem witness_RequestsWaitWhileBusy : (writing 0).busy = true ∧ isPresented (.cfgr .devid) = true ∧
    blockTurn { writing 0 with moves := [.config false 0 0] } = true := by decide
theorem witness_Build_legal : State.reset.busy = false ∧ (1 : Byte).toNat ≤ 1 ∧ (30 : Byte).toNat ≤ 30 := by decide
theorem witness_Build_illegal : State.reset.busy = false ∧ 1 < (2 : Byte).toNat ∧ 30 < (31 : Byte).toNat := by decide
theorem witness_BuiltFramesAreWellShaped : ∃ f, build w0 .setWorkPeriod .read 30 0xFFFF = .ok f := ⟨_, rfl⟩
theorem witness_InvalidParameterExactlyWhenOutOfRange : build w0 .setWorkPeriod .read 31 0 = .error .invalidParameter ∧
    build w0 .setReportMode .read 2 0 = .error .invalidParameter ∧
    build w0 .setSleep .read 2 0 = .error .invalidParameter := by decide
theorem witness_CommandFramesPushTheirNextByte : (writing 18).Writing ∧ (writing 18).txRoom ≠ some 0 ∧ (writing 0).Writing := by decide
theorem witness_CommandFramesWaitOutsideWritePhase : isCommandFrame (.cmdQuery 0 0) = true ∧ ¬ (writing 19).Writing := by decide
theorem witness_DataFramesWaitOutsideValidate : isDataFrame (.dataMeasurement 0 0 0 0 0 0) = true ∧
    isDataFrame (.dataReply 0xC5 0 0 0 0 0 0) = true ∧ ¬ State.reset.Validating ∧ ¬ (writing 19).Validating := by decide
theorem witness_StalledTransportLeavesExchangeStuck : ({ writing 7 with txRoom := some 0 } : State).Writing ∧ blockTurn (writing 7) = true := by decide
theorem witness_NineteenWriteStepsPushTheCommand : (writing 0).busy = true ∧ (writing 0).op = .xchg ∧ (writing 0).txi = 0 ∧ blockTurn (writing 0) = true ∧
    ∀ n, ({ writing 0 with txRoom := some 19 } : State).txRoom = some n → 19 ≤ n := ⟨rfl, rfl, rfl, rfl, fun n h => by cases h; decide⟩
theorem witness_WriteCompletesBeforeReadBegins : ∃ t, step (writing 3) = .next t ∧ (writing 3).Writing := ⟨_, rfl, by decide⟩
theorem witness_WriteCompletesBeforeReadBegins_after : ∃ t, step { writing 19 with rx := [.byte 0xAA] } = .next t ∧ ¬ (writing 19).Writing := ⟨_, rfl, by decide⟩
theorem witness_ExchangeRunsToItsResponse : ∃ (s : State) (f : Vector Byte 19), s.busy = false ∧ s.moves = [.request 0x6800 []] ∧
    decodeRequest 0x6800 = exchangeOf .query .read 0 ∧ build s.wire .query .read 0 s.devid = .ok f ∧
    (∀ n, s.txRoom = some n → 19 ≤ n) ∧ s.rx = goodFrame.toList.map RxAnswer.byte ++ RxAnswer.timeout :: [] := 
  ⟨{ State.reset with moves := [.request 0x6800 []], rx := goodFrame.toList.map RxAnswer.byte ++ [RxAnswer.timeout] },
    _, rfl, rfl, by decide, rfl, fun _ h => (by cases h), rfl⟩
theorem witness_ReservedRequestsAnswerInvalidParameter : (4 ≤ (0x8000 : Half).toNat / 2 ^ 13) ∧ ((0x0100 : Half).toNat / 2 ^ 8 % 4 ≠ 0) ∧
    ((0x0200 : Half).toNat / 2 ^ 8 % 4 ≠ 0) ∧ ((0x1CFF : Half).toNat / 2 ^ 13 = 0 ∧ (0x1CFF : Half).toNat / 2 ^ 8 % 4 = 0) ∧
    ((0x3CFF : Half).toNat / 2 ^ 13 = 1 ∧ (0x3CFF : Half).toNat / 2 ^ 8 % 4 = 0) ∧
    ((0x5CFF : Half).toNat / 2 ^ 13 = 2 ∧ (0x5CFF : Half).toNat / 2 ^ 8 % 4 = 0) ∧ ((0x7CFF : Half).toNat / 2 ^ 13 = 3 ∧ (0x7CFF : Half).toNat / 2 ^ 8 % 4 = 0) := by decide
theorem witness_ReservedRequests_step : ∃ s : State, s.busy = false ∧ s.moves = .request 0x0100 [] :: [] := ⟨{ State.reset with moves := [.request 0x0100 []] }, by decide⟩
theorem witness_ParseTests : goodFrame.toList.length = 10 ∧ (goodFrame.toList ++ [0]).length ≠ 10 := by decide
theorem witness_ParseAnswers_length : ∃ s : State, s.busy = false ∧ s.pf.length ≠ 10 := ⟨{ State.reset with pf := goodFrame.toList ++ [0] }, by decide⟩
theorem witness_ParseAnswers_good : ∃ s : State, s.busy = false ∧ s.pf = [0xAA, 0xC0, 0x13, 0, 0x54, 0, 0xFF, 0xFF, 0x65, 0xAB] ∧
    (0x13 + 0 + 0x54 + 0 + 0xFF + 0xFF : Byte) = 0x65 := ⟨{ State.reset with pf := goodFrame.toList }, by decide⟩
theorem witness_ParseAnswers_bad : (0x13 + 0 + 0x54 + 0 + 0xFF + 0xFF : Byte) ≠ 0x64 ∧ (0xAC : Byte) ≠ 0xAB := by decide
theorem witness_SingleBitCorruptionIsDetected : goodFrame[8].toNat = (goodFrame[2].toNat + goodFrame[3].toNat + goodFrame[4].toNat + goodFrame[5].toNat +
    goodFrame[6].toNat + goodFrame[7].toNat) % 256 ∧ goodFrame[9] = 0xAB ∧ 2 ≤ (8 : Fin 10).val ∧ (8 : Fin 10).val ≤ 8 := by decide
theorem witness_Config_idle_and_busy : State.reset.busy = false ∧ (writing 0).busy = true ∧ ConfigReg.ctrl ≠ ConfigReg.devid := by decide
theorem witness_ChecksumLaws : [(1 : Byte), 2].Perm [2, 1] := List.Perm.swap _ _ _
theorem witness_NextByte_replay : ∃ s : State, s.pend = 1 :: [2] := ⟨{ State.reset with pend := [1, 2] }, rfl⟩
theorem witness_NextByte_pull : ∃ s : State, s.pend = [] ∧ s.rx = RxAnswer.timeout :: [] := ⟨{ State.reset with rx := [.timeout] }, rfl, rfl⟩
theorem witness_NextByte_free : State.reset.pend = [] ∧ State.reset.rx = [] := by decide
theorem witness_SeekHeadStep : blockTurn (seeking .unbounded [.byte 0xAA]) = true ∧ (seeking .unbounded [.byte 0xAA]).Seeking ∧
    (seeking .unbounded [.byte 0xAA]).nextByte.1 = .byte 0xAA ∧ (seeking .unbounded [.byte 0xAB]).nextByte.1 = .byte 0xAB ∧
    (seeking .unbounded [.timeout]).nextByte.1 = .timeout := by decide
theorem witness_ReadBodyStep : ∃ s : State, blockTurn s = true ∧ ¬ s.Writing ∧ s.busy = true ∧ s.st = .readBody ∧ s.cnt = (9 : Fin 10).val ∧
    s.nextByte.1 = .byte 7 := ⟨{ seeking .unbounded [.byte 7] with st := .readBody, cnt := 9 }, by decide⟩
theorem witness_ReadBodyStep_eighth : ∃ s : State, blockTurn s = true ∧ ¬ s.Writing ∧ s.busy = true ∧ s.st = .readBody ∧ s.cnt = (8 : Fin 10).val ∧
    (8 : Fin 10).val < 9 ∧ s.nextByte.1 = .byte 7 := ⟨{ seeking .unbounded [.byte 7] with st := .readBody, cnt := 8 }, by decide⟩
theorem witness_ReadBodyStep_timeout : ∃ s : State, blockTurn s = true ∧ ¬ s.Writing ∧ s.busy = true ∧ s.st = .readBody ∧ s.cnt = (1 : Fin 10).val ∧
    s.nextByte.1 = .timeout := ⟨{ seeking .unbounded [.timeout] with st := .readBody, cnt := 1 }, by decide⟩
theorem witness_ValidateStep_good : ∃ s : State, blockTurn s = true ∧ ¬ s.Writing ∧ s.Validating ∧
    s.buf = #v[0xAA, 0xC0, 0x13, 0, 0x54, 0, 0xFF, 0xFF, 0x65, 0xAB] ∧ (0xC0 : Byte) = s.expect := ⟨candidate .unbounded goodFrame, by decide⟩
theorem witness_ValidateStep_unbounded : ∃ s : State, blockTurn s = true ∧ ¬ s.Writing ∧ s.Validating ∧
    s.buf = #v[0xAA, 0xC0, 0x13, 0, 0x54, 0, 0xFF, 0xFF, 0x64, 0xAB] ∧
    ¬ ((0x64 : Byte) = 0x13 + 0 + 0x54 + 0 + 0xFF + 0xFF ∧ (0xAB : Byte) = 0xAB ∧ (0xC0 : Byte) = s.expect) ∧
    s.limit = .unbounded := ⟨candidate .unbounded badFrame, by decide⟩
/-- T1a: `rs_cnt = N - 1`. -/
theorem witness_ValidateStep_below_limit : ∃ s : State, blockTurn s = true ∧ ¬ s.Writing ∧ s.Validating ∧
    s.buf = #v[0xAA, 0xC0, 0x13, 0, 0x54, 0, 0xFF, 0xFF, 0x64, 0xAB] ∧
    ¬ ((0x64 : Byte) = 0x13 + 0 + 0x54 + 0 + 0xFF + 0xFF ∧ (0xAB : Byte) = 0xAB ∧ (0xC0 : Byte) = s.expect) ∧
    s.limit = .atMost 1 ∧ s.rsCnt < 1 := ⟨afterAttempts 0 1, by decide⟩
/-- T1d: `rs_cnt = N`. -/
theorem witness_ValidateStep_at_limit : ∃ s : State, blockTurn s = true ∧ ¬ s.Writing ∧ s.Validating ∧
    s.buf = #v[0xAA, 0xC0, 0x13, 0, 0x54, 0, 0xFF, 0xFF, 0x64, 0xAB] ∧
    ¬ ((0x64 : Byte) = 0x13 + 0 + 0x54 + 0 + 0xFF + 0xFF ∧ (0xAB : Byte) = 0xAB ∧ (0xC0 : Byte) = s.expect) ∧
    s.limit = .atMost 1 ∧ 1 ≤ s.rsCnt := ⟨afterAttempts 1 1, by decide⟩
theorem witness_ResyncStopsAtTheLimit : (candidate .unbounded badFrame).busy = true ∧
    (candidate .unbounded badFrame).limit = .unbounded ∧ (afterAttempts 1 2).busy = true ∧
    (afterAttempts 1 2).limit = .atMost 2 ∧ (afterAttempts 1 2).rsCnt < 2 ∧ (afterAttempts 2 2).busy = true ∧
    (afterAttempts 2 2).limit = .atMost 2 ∧ 2 ≤ (afterAttempts 2 2).rsCnt := by decide
theorem witness_GoodDataFrames : (candidate .unbounded goodFrame).Validating ∧ (0x65 : Byte) = replySum 0x13 0 0x54 0 0xFFFF ∧
    (candidate .unbounded goodFrame).expect = 0xC0 := by decide
/-- X3: a reply whose command number is not `0xC0`. -/
theorem witness_GoodDataFrames_reply : awaitingReply.Validating ∧ (9 : Byte) = replySum 6 1 1 0 0xA160 ∧
    awaitingReply.expect = 0xC5 := by decide
theorem witness_BadDataFrames_bound : (afterAttempts 0 1).Validating ∧ (afterAttempts 1 1).Validating ∧
    (0x64 : Byte) ≠ replySum 0x13 0 0x54 0 0xFFFF := by decide
theorem witness_BadDataFrames : (candidate .unbounded badFrame).Validating ∧ (0x64 : Byte) ≠ replySum 0x13 0 0x54 0 0xFFFF ∧
    (candidate .unbounded badFrame).expect ≠ 0xC5 := by decide
theorem witness_CycleComputesItsClosedForm : ∃ s : State, blockTurn s = true ∧ s.Seeking ∧ s.pend = [] ∧ s.rsCnt = 0 ∧
    s.rx = goodFrame.toList.map RxAnswer.byte ++ RxAnswer.timeout :: [] := ⟨seeking .unbounded (goodFrame.toList.map RxAnswer.byte ++ [RxAnswer.timeout]), by decide⟩
/-- T6, clause (a), and T1d, clause (c). -/
theorem witness_CycleComputesItsClosedForm_other_ends : ∃ s u : State,
    blockTurn s = true ∧ s.Seeking ∧ s.pend = [] ∧ s.rsCnt = 0 ∧
    s.rx = [0xAA, 0xC0, 0x13, 0, 0x54].map RxAnswer.byte ++ RxAnswer.timeout :: [] ∧
    closedForm s.expect s.limit [0xAA, 0xC0, 0x13, 0, 0x54] = .timedOut ∧
    blockTurn u = true ∧ u.Seeking ∧ u.pend = [] ∧ u.rsCnt = 0 ∧
    u.rx = streamT1c.map RxAnswer.byte ++ RxAnswer.timeout :: [] ∧
    closedForm u.expect u.limit streamT1c = .desynced 10 :=
  ⟨seeking .unbounded ([0xAA, 0xC0, 0x13, 0, 0x54].map RxAnswer.byte ++ [RxAnswer.timeout]),
    seeking (.atMost 1) (streamT1c.map RxAnswer.byte ++ [RxAnswer.timeout]), by decide⟩
theorem witness_NoHeadNoReading : ∃ s : State, blockTurn s = true ∧ s.Seeking ∧ s.op = .read ∧ s.pend = [] ∧
    (∀ a ∈ [RxAnswer.byte 0, RxAnswer.byte 0xAB], a ≠ .timeout ∧ a ≠ .byte 0xAA) ∧
    s.rx = [RxAnswer.byte 0, RxAnswer.byte 0xAB] ++ RxAnswer.timeout :: [] := 
  ⟨seeking .unbounded [.byte 0, .byte 0xAB, .timeout], by decide⟩
theorem witness_ResetInputAbandonsTheRequest : ∃ s : State, s.moves = .reset :: [] ∧ s.busy = true := ⟨{ writing 7 with moves := [.reset] }, by decide⟩
theorem witness_StepKeepsInvariants : ∃ s t : State, s.Inv ∧ s.busy = true ∧ step s = .next t := ⟨candidate .unbounded goodFrame, _, by decide, rfl, rfl⟩
theorem witness_StepKeepsExchangeSingleFrame : ∃ s t : State, s.SingleFrame ∧ s.busy = true ∧ s.op = .xchg ∧ step s = .next t := ⟨writing 3, _, by decide, rfl, rfl, rfl⟩
theorem witness_CycleEndsOnlyByResponse : ∃ s t : State, s.busy = true ∧ (∀ rest, s.moves ≠ .reset :: rest) ∧ step s = .next t ∧ t.busy = false := 
  ⟨candidate .unbounded goodFrame, _, rfl, fun _ h => (by cases h), rfl, by decide⟩
theorem witness_StatusesByOperation_accept : ∃ t r, State.reset.busy = false ∧ exec (.reservedOp 0) State.reset = .next t ∧ t.rsp = State.reset.rsp ++ [r] := 
  ⟨_, .error .invalidParameter, rfl, rfl, by decide⟩
theorem witness_StatusesByOperation_cycle : ∃ s t r, s.busy = true ∧ step s = .next t ∧ t.rsp = s.rsp ++ [r] ∧ r.status = 5 := 
  ⟨candidate (.atMost 0) badFrame, _, .error .desyncExceeded, rfl, rfl, by decide, rfl⟩
theorem witness_BlockNeverWritesConfiguration : ∃ t, isConfigWrite (.read 0 0) = false ∧ exec (.read 0 0) State.reset = .next t := ⟨_, rfl, rfl⟩
theorem witness_BlockNeverWritesConfiguration_cycle : ∃ s t : State, s.busy = true ∧ (∀ rest, s.moves ≠ .reset :: rest) ∧
    step s = .next t := ⟨candidate .unbounded goodFrame, _, rfl, fun _ h => (by cases h), rfl⟩
theorem witness_BlockNeverWritesConfiguration_idle : ∃ s t : State, s.busy = false ∧ s.moves = [.hold] ∧
    (∀ rest, s.moves ≠ .reset :: rest) ∧ (∀ a d rest, s.moves ≠ .config true a d :: rest) ∧ step s = .next t :=
  ⟨{ base with moves := [.hold] }, _, rfl, rfl, fun _ h => (by cases h), fun _ _ _ h => (by cases h), rfl⟩
theorem witness_WireConstantsNeverChange : ∃ t, step { writing 7 with moves := [.reset] } = .next t := ⟨_, rfl⟩
theorem witness_OnlyTheScanPulls : ∃ t, State.reset.busy = false ∧ step State.reset = .next t := ⟨_, rfl, rfl⟩
theorem witness_IdleBlockKeepsNoOtherInformation : ∃ s u : State, s ≠ u ∧ s.busy = false ∧ s.AtRest ∧ u.AtRest ∧ s.SameOutside u := 
  ⟨State.reset, { State.reset with buf := goodFrame, acc := 7, op := .xchg, limit := .atMost 3, expect := 9 }, by decide⟩

end Sys2Proof.Tests
end

/-! SUPPORT. The request words (30_encoding.md section 3): their fields as numbers, the operation each one is, and the
answer to a reserved one. -/

namespace Sys2Proof.Machine

open Sys2Proof.Statements

/-! ## The answer to a reserved request (R96) -/

/-- A request refused by the idle block: one error response and nothing else (R250). -/
theorem State.whenIdle_failRequest (s : State) (e : ErrorKind) (h : s.busy = false) :
    (s.whenIdle fun s => s.failRequest e) = answeredWith s e := by
  rw [State.whenIdle_idle s _ h, State.failRequest_of_idle s e h]
  rfl

/-- RESERVED.op4to7 (R96). -/
theorem exec_reservedOp_of_idle (x : BitVec 15) (s : State) (h : s.busy = false) :
    exec (.reservedOp x) s = .next (answeredWith s .invalidParameter) :=
  congrArg Host.Outcome.next (s.whenIdle_failRequest .invalidParameter h)

/-- RESERVED.bit8 (R96). -/
theorem exec_reservedBit8_of_idle (hi : BitVec 7) (lo : Byte) (s : State) (h : s.busy = false) :
    exec (.reservedBit8 hi lo) s = .next (answeredWith s .invalidParameter) :=
  congrArg Host.Outcome.next (s.whenIdle_failRequest .invalidParameter h)

/-- RESERVED.bit9 (R96). -/
theorem exec_reservedBit9_of_idle (hi : BitVec 6) (b : BitVec 1) (lo : Byte) (s : State)
    (h : s.busy = false) :
    exec (.reservedBit9 hi b lo) s = .next (answeredWith s .invalidParameter) :=
  congrArg Host.Outcome.next (s.whenIdle_failRequest .invalidParameter h)

/-- The idle block takes the request the host presents, and latches PF (R22, R150). -/
theorem step_request_of_idle (s : State) (r : Half) (pf : List Byte) (rest : List HostMove)
    (hidle : s.busy = false) (hmoves : s.moves = .request r pf :: rest) :
    step s = exec (decodeRequest r) { s with moves := rest, pf := pf } := by
  simp [step, State.fetch, hmoves, hidle]

/-! ## The fields of a request word as numbers (R95) -/

/-- Bits `i + n - 1 .. i` of a request word. -/
theorem toNat_requestField (r : Half) (i n : Nat) :
    (r.extractLsb' i n).toNat = r.toNat / 2 ^ i % 2 ^ n := by
  rw [BitVec.extractLsb'_toNat, Nat.shiftRight_eq_div_pow]

/-- One bit of a request word. -/
theorem getLsbD_request (r : Half) (i : Nat) : r.getLsbD i = decide (r.toNat / 2 ^ i % 2 = 1) := by
  rw [← BitVec.testBit_toNat, Nat.testBit_eq_decide_div_mod_eq]

/-- Bit 15 says that `op` is one of 4 to 7 (R96). -/
theorem getLsbD_15_eq_true_iff (r : Half) : r.getLsbD 15 = true ↔ 4 ≤ r.toNat / 2 ^ 13 := by
  have hr : r.toNat < 2 ^ 16 := r.isLt
  rw [getLsbD_request, decide_eq_true_iff]
  omega

/-- Bits 9:8 are the two reserved bits of R96. -/
theorem getLsbD_8_or_9_iff (r : Half) :
    r.getLsbD 8 = true ∨ r.getLsbD 9 = true ↔ r.toNat / 2 ^ 8 % 4 ≠ 0 := by
  rw [getLsbD_request, getLsbD_request, decide_eq_true_iff, decide_eq_true_iff]
  omega

/-- The direction code of bit 10 (R97). -/
theorem decodeDir_bit10 (r : Half) :
    decodeDir (r.extractLsb' 10 1) = directionOfCode (r.toNat / 2 ^ 10 % 2) := by
  have hbit : r.extractLsb' 10 1 = 0 ↔ r.toNat / 2 ^ 10 % 2 = 0 := by
    rw [← BitVec.toNat_inj, toNat_requestField]
    rfl
  simp only [decodeDir, directionOfCode, hbit]

/-- A field as the word of its number. -/
theorem requestField_eq_ofNat (r : Half) (i n : Nat) :
    r.extractLsb' i n = BitVec.ofNat n (r.toNat / 2 ^ i % 2 ^ n) := by
  rw [← toNat_requestField, BitVec.ofNat_toNat, BitVec.setWidth_eq]

/-! ## Which operation a request word is (R96, R102) -/

/-- A word with `op` in `4..7` or with bit 8 or 9 set is one of the three reserved rows. -/
theorem decodeRequest_of_reserved (r : Half) (h : 4 ≤ r.toNat / 2 ^ 13 ∨ r.toNat / 2 ^ 8 % 4 ≠ 0) :
    (∃ x, decodeRequest r = .reservedOp x) ∨ (∃ hi lo, decodeRequest r = .reservedBit8 hi lo) ∨
      (∃ hi b lo, decodeRequest r = .reservedBit9 hi b lo) := by
  rw [← getLsbD_15_eq_true_iff, ← getLsbD_8_or_9_iff] at h
  by_cases h15 : r.getLsbD 15 = true
  · exact .inl ⟨_, if_pos h15⟩
  by_cases h8 : r.getLsbD 8 = true
  · exact .inr (.inl ⟨_, _, (if_neg h15).trans (if_pos h8)⟩)
  · have h9 : r.getLsbD 9 = true := (h.resolve_left h15).resolve_left h8
    exact .inr (.inr ⟨_, _, _, (if_neg h15).trans ((if_neg h8).trans (if_pos h9))⟩)

/-- What the idle block does with a reserved request word, whichever of the rows that match it decodes it (log entry 8). -/
theorem exec_decodeRequest_of_reserved (r : Half) (s : State) (hidle : s.busy = false)
    (h : 4 ≤ r.toNat / 2 ^ 13 ∨ r.toNat / 2 ^ 8 % 4 ≠ 0) :
    exec (decodeRequest r) s = .next (answeredWith s .invalidParameter) := by
  rcases decodeRequest_of_reserved r h with ⟨x, hrow⟩ | ⟨hi, lo, hrow⟩ | ⟨hi, b, lo, hrow⟩
  · rw [hrow, exec_reservedOp_of_idle x s hidle]
  · rw [hrow, exec_reservedBit8_of_idle hi lo s hidle]
  · rw [hrow, exec_reservedBit9_of_idle hi b lo s hidle]

/-- The operation of an `op` code below 4 with its fields (R95, R96). -/
def legalOperation (op : Nat) (kind : Kind) (dir : Direction) (unused : BitVec 3) (param : Byte) : Instr :=
  match op with
  | 0 => buildOf kind dir param
  | 1 => .parse unused param
  | 2 => .read unused param
  | _ => exchangeOf kind dir param

/-- A word with `op` in `0..3` and bits 9:8 clear is the operation of its `op` code, with the fields of R95. -/
theorem decodeRequest_of_legal (r : Half) (hop : r.toNat / 2 ^ 13 < 4) (h98 : r.toNat / 2 ^ 8 % 4 = 0) :
    decodeRequest r =
      legalOperation (r.toNat / 2 ^ 13) (kindOfCode (r.toNat / 2 ^ 11 % 4))
        (directionOfCode (r.toNat / 2 ^ 10 % 2)) (BitVec.ofNat 3 (r.toNat / 2 ^ 10 % 8))
        (BitVec.ofNat 8 (r.toNat % 2 ^ 8)) := by
  have h15 : ¬ r.getLsbD 15 = true := by rw [getLsbD_15_eq_true_iff]; omega
  have hclear : ¬ (r.getLsbD 8 = true ∨ r.getLsbD 9 = true) := by rw [getLsbD_8_or_9_iff]; omega
  obtain ⟨h8, h9⟩ := not_or.mp hclear
  have hopField : (r.extractLsb' 13 2).toNat = r.toNat / 2 ^ 13 := by
    rw [toNat_requestField]; omega
  have hkindField : (r.extractLsb' 11 2).toNat = r.toNat / 2 ^ 11 % 4 := toNat_requestField r 11 2
  have hunused : r.extractLsb' 10 3 = BitVec.ofNat 3 (r.toNat / 2 ^ 10 % 8) :=
    requestField_eq_ofNat r 10 3
  have hparam : r.extractLsb' 0 8 = BitVec.ofNat 8 (r.toNat % 2 ^ 8) := by
    rw [requestField_eq_ofNat, Nat.pow_zero, Nat.div_one]
  have hkind : r.toNat / 2 ^ 11 % 4 < 4 := Nat.mod_lt _ (by decide)
  simp only [decodeRequest, if_neg h15, if_neg h8, if_neg h9, hopField, hkindField, hunused, hparam,
    decodeDir_bit10]
  generalize r.toNat / 2 ^ 13 = op at hop ⊢
  generalize r.toNat / 2 ^ 11 % 4 = kind at hkind ⊢
  interval_cases op
  · interval_cases kind <;> rfl
  · rfl
  · rfl
  · interval_cases kind <;> rfl

/-- Settles O22: the arms of `exec` for the reserved rows, the two halves of the request decoder, and the step that
accepts a request put together. -/
theorem reservedRequestsAnswerInvalidParameter : Obligations.ReservedRequestsAnswerInvalidParameter := by
  unfold Obligations.ReservedRequestsAnswerInvalidParameter
  refine ⟨fun x h7 h6 b lo s hidle => ⟨?_, ?_, ?_⟩, fun r pf rest s hidle hmoves hreserved => ?_,
    fun r h98 => ⟨?_, ?_, ?_, ?_⟩⟩
  · exact exec_reservedOp_of_idle x s hidle
  · exact exec_reservedBit8_of_idle h7 lo s hidle
  · exact exec_reservedBit9_of_idle h6 b lo s hidle
  · exact (step_request_of_idle s r pf rest hidle hmoves).trans
      (exec_decodeRequest_of_reserved r _ hidle hreserved)
  -- one clause for each `op` code: `legalOperation` at that code is the operation the clause names
  all_goals
    intro hop
    rw [decodeRequest_of_legal r (by omega) h98, hop]
    rfl

end Sys2Proof.Machine

/-! SUPPORT. The checksum generator (40_checksum.md): the accumulator of R122 and the sum of R120. -/

namespace Sys2Proof.Machine

/-- The accumulator from any start: it gains the checksum of the bytes that pass. The start is free because the
register does not stay 0 once the first byte is in (R122). -/
theorem foldl_accumulate (acc : Byte) (s : List Byte) : s.foldl accumulate acc = acc + checksum s := by
  induction s generalizing acc with
  | nil => rw [List.foldl_nil, checksum_nil, BitVec.ofNat_eq_ofNat, BitVec.add_zero]
  | cons b s ih =>
    calc (b :: s).foldl accumulate acc
        = s.foldl accumulate (acc + b) := rfl
      _ = acc + b + checksum s := ih (acc + b)
      _ = acc + checksum (b :: s) := by rw [checksum_cons, BitVec.add_assoc]

/-- The accumulator started at 0 ends at the checksum (R122). -/
theorem foldl_accumulate_zero (s : List Byte) : s.foldl accumulate 0 = checksum s := by
  rw [foldl_accumulate, BitVec.ofNat_eq_ofNat, BitVec.zero_add]

/-- The checksum as a number: the integer sum of the bytes, reduced mod 256 (R120). -/
theorem toNat_checksum (s : List Byte) : (checksum s).toNat = (s.map BitVec.toNat).sum % 256 :=
  BitVec.toNat_ofNat _ 8

/-- Settles O30, by induction on the bytes from an arbitrary start of the accumulator; that reduction mod 256 commutes
with addition is `checksum_cons`. -/
theorem accumulatorEndsAtChecksum : Obligations.AccumulatorEndsAtChecksum := by
  unfold Obligations.AccumulatorEndsAtChecksum
  exact fun l => ⟨foldl_accumulate_zero l, toNat_checksum l⟩

end Sys2Proof.Machine

/-! SUPPORT. The command frame builder (41_command_builder.md): one equation of `build` per kind, and the shape of the
frame it answers with. -/

namespace Sys2Proof.Machine

open Sys2Proof.Statements

/-! ## The frame of the statements (R81, R87) -/

/-- The frame of the statements is the model's layout, with the sum of R87 at offset 17. -/
theorem wireFrame_eq_commandFrame (k d m : Byte) (id : Half) :
    wireFrame k d m id = commandFrame k d m id (commandSum k d m id) := rfl

/-- Offset 17 of a frame is the checksum of its own offsets 2 to 16 (R87). -/
theorem checksum_commandRange_wireFrame (k d m : Byte) (id : Half) :
    checksum (commandRange (wireFrame k d m id)) = commandSum k d m id :=
  checksum_commandRange k d m id _

/-- Offsets 5 to 14 of a frame are padding (R85). -/
theorem wireFrame_padding (k d m : Byte) (id : Half) (i : Fin 19) (h5 : 5 ≤ i.val) (h14 : i.val ≤ 14) :
    (wireFrame k d m id)[i] = 0 := by
  obtain ⟨i, hi⟩ := i
  interval_cases i <;> rfl

/-! ## The steps of `Build` (R131) -/

/-- `DirByte` of the model and of the statements (R84). -/
theorem dirByte_eq_onWire (w : WireConstants) (dir : Direction) : dirByte w dir = onWire w dir := by
  cases dir <;> rfl

/-- Query's body is the common layout with no direction and no argument (R133). -/
theorem bodyQuery_eq (w : WireConstants) : bodyQuery w = .ok (bodyOf w.queryId 0 0) :=
  congrArg Except.ok (Vector.toList_inj.mp rfl)

/-- The bytes `Build` sums, body then device id, are offsets 2 to 16 of the frame (R87, R131). -/
theorem bodyOf_append_ids (k d m : Byte) (id : Half) :
    (bodyOf k d m).toList ++ (#v[hi8 id, lo8 id] : Vector Byte 2).toList =
      commandRange (wireFrame k d m id) := by
  rw [bodyOf_eq]; rfl

section
variable {w : WireConstants} {kind : Kind} {dir : Direction} {p : Byte}

/-- When `Body` raises, nothing else of `Build` happens (R131). -/
theorem build_of_body_error {e : ErrorKind} (id : Half) (h : body w kind dir p = .error e) :
    build w kind dir p id = .error e := by
  simp only [build, h]

/-- Around a body `Build` sets head, mark, id, checksum and tail (R131). -/
theorem build_of_body_ok {k d m : Byte} (id : Half) (h : body w kind dir p = .ok (bodyOf k d m)) :
    build w kind dir p id = .ok (wireFrame k d m id) := by
  simp only [build, h, bodyOf_append_ids, checksum_commandRange_wireFrame, frame_of_body,
    ← wireFrame_eq_commandFrame]

/-- `Build` keeps the parameter test of `Body` (R131, R135). -/
theorem build_of_body_ite {c : Prop} [Decidable c] {k d m : Byte} (id : Half)
    (h : body w kind dir p = if c then .error .invalidParameter else .ok (bodyOf k d m)) :
    build w kind dir p id = if c then .error .invalidParameter else .ok (wireFrame k d m id) := by
  by_cases hc : c
  · rw [if_pos hc] at h ⊢; exact build_of_body_error id h
  · rw [if_neg hc] at h ⊢; exact build_of_body_ok id h

end

/-! ## `Build`, kind by kind -/

section
variable (w : WireConstants) (dir : Direction) (p : Byte) (id : Half)

/-- SetReportMode (R132). -/
theorem build_setReportMode : build w .setReportMode dir p id =
    if 1 < p.toNat then .error .invalidParameter
    else .ok (wireFrame w.reportModeId (onWire w dir) (chosen p w.activeByte w.passiveByte) id) := by
  rw [← dirByte_eq_onWire]; exact build_of_body_ite id rfl

/-- Query (R133). -/
theorem build_query : build w .query dir p id = .ok (wireFrame w.queryId 0 0 id) :=
  build_of_body_ok id (bodyQuery_eq w)

/-- SetSleep (R134). -/
theorem build_setSleep : build w .setSleep dir p id =
    if 1 < p.toNat then .error .invalidParameter
    else .ok (wireFrame w.sleepId (onWire w dir) (chosen p w.sleepByte w.workByte) id) := by
  rw [← dirByte_eq_onWire]; exact build_of_body_ite id rfl

/-- SetWorkPeriod (R136). -/
theorem build_setWorkPeriod : build w .setWorkPeriod dir p id =
    if 30 < p.toNat then .error .invalidParameter
    else .ok (wireFrame w.workPeriodId (onWire w dir) p id) := by
  rw [← dirByte_eq_onWire]; exact build_of_body_ite id rfl

end

/-- Settles O52: the equation of each kind, its test decided by the bound on the parameter. -/
theorem buildReturnsTheFrameOfItsKind : Obligations.BuildReturnsTheFrameOfItsKind := by
  unfold Obligations.BuildReturnsTheFrameOfItsKind
  intro w dir p id
  rw [build_setReportMode, build_setSleep, build_setWorkPeriod]
  exact ⟨fun h => if_neg h.not_gt, fun h => if_pos h, build_query w dir p id,
    fun h => if_neg h.not_gt, fun h => if_pos h, fun h => if_neg h.not_gt, fun h => if_pos h⟩

/-! ## What `Build` can return -/

/-- A result guarded by a parameter test is an error exactly when the test refuses. -/
theorem ite_invalidParameter_eq_error_iff {c : Prop} [Decidable c] {f : Vector Byte 19} {e : ErrorKind} :
    (if c then .error .invalidParameter else .ok f : Except ErrorKind (Vector Byte 19)) = .error e ↔
      e = .invalidParameter ∧ c := by
  by_cases hc : c <;> simp [hc, eq_comm]

/-- A result guarded by a parameter test is a frame exactly when the test passes. -/
theorem ite_invalidParameter_eq_ok_iff {c : Prop} [Decidable c] {f g : Vector Byte 19} :
    (if c then .error .invalidParameter else .ok f : Except ErrorKind (Vector Byte 19)) = .ok g ↔
      ¬c ∧ g = f := by
  by_cases hc : c <;> simp [hc, eq_comm]

/-- Settles O14: in each kind the test of that kind's equation is the only way to an error, and Query has none. -/
theorem invalidParameterExactlyWhenOutOfRange : Obligations.InvalidParameterExactlyWhenOutOfRange := by
  unfold Obligations.InvalidParameterExactlyWhenOutOfRange
  intro w kind dir p id e
  cases kind with
  | setReportMode => rw [build_setReportMode, ite_invalidParameter_eq_error_iff]; simp
  | query => rw [build_query]; simp
  | setSleep => rw [build_setSleep, ite_invalidParameter_eq_error_iff]; simp
  | setWorkPeriod => rw [build_setWorkPeriod, ite_invalidParameter_eq_error_iff]; simp

/-- Whatever the kind, a frame `Build` returns has the layout of R81 and carries the id it was given. -/
theorem exists_wireFrame_of_build {w : WireConstants} {kind : Kind} {dir : Direction} {p : Byte} {id : Half}
    {f : Vector Byte 19} (h : build w kind dir p id = .ok f) : ∃ k d m, f = wireFrame k d m id := by
  cases kind with
  | setReportMode =>
    rw [build_setReportMode, ite_invalidParameter_eq_ok_iff] at h; exact ⟨_, _, _, h.2⟩
  | query => rw [build_query] at h; exact ⟨_, _, _, (Except.ok.inj h).symm⟩
  | setSleep =>
    rw [build_setSleep, ite_invalidParameter_eq_ok_iff] at h; exact ⟨_, _, _, h.2⟩
  | setWorkPeriod =>
    rw [build_setWorkPeriod, ite_invalidParameter_eq_ok_iff] at h; exact ⟨_, _, _, h.2⟩

/-- Settles O13: a built frame is a `wireFrame`, whose fixed offsets stand in its layout and whose offset 17 is the
checksum of its range. -/
theorem builtFramesAreWellShaped : Obligations.BuiltFramesAreWellShaped := by
  unfold Obligations.BuiltFramesAreWellShaped
  intro w kind dir p id f h
  obtain ⟨k, d, m, rfl⟩ := exists_wireFrame_of_build h
  have hsum : (commandSum k d m id).toNat =
      ((commandRange (wireFrame k d m id)).map BitVec.toNat).sum % 256 := by
    rw [← checksum_commandRange_wireFrame, toNat_checksum]
  exact ⟨rfl, rfl, rfl, hsum, wireFrame_padding k d m id, rfl, rfl⟩

end Sys2Proof.Machine


/-! SUPPORT. The frame validator (42_frame_validator.md): the answer of `parse` under each of its tests, and what one
changed byte does to the checksum test. -/

namespace Sys2Proof.Machine

open Sys2Proof.Statements

/-! ## The tests of `Parse`, in their order (R151) -/

section
variable {f : List Byte}

/-- The length test comes first (R151). -/
theorem parse_of_length_ne (hlen : f.length ≠ 10) : parse f = .error .malformedFrame := if_pos hlen

/-- With ten bytes, the checksum test decides before the tail is looked at (R151, R152). -/
theorem parse_of_checksum_ne (hlen : f.length = 10) (hck : checksum (dataRange f) ≠ f.getD 8 0) :
    parse f = .error .checksumMismatch := by
  rw [parse, if_neg (not_not_intro hlen), if_pos hck]

/-- With ten bytes and the right checksum, the tail test is left (R151). -/
theorem parse_of_tail_ne (hlen : f.length = 10) (hck : checksum (dataRange f) = f.getD 8 0)
    (htail : f.getD 9 0 ≠ tailByte) : parse f = .error .malformedFrame := by
  rw [parse, if_neg (not_not_intro hlen), if_neg (not_not_intro hck), if_pos htail]

/-- Past the three tests, the two little-endian values are the answer (R151, R153). -/
theorem parse_of_valid (hlen : f.length = 10) (hck : checksum (dataRange f) = f.getD 8 0)
    (htail : f.getD 9 0 = tailByte) :
    parse f = .ok (little (f.getD 2 0) (f.getD 3 0), little (f.getD 4 0) (f.getD 5 0)) := by
  rw [parse, if_neg (not_not_intro hlen), if_neg (not_not_intro hck), if_neg (not_not_intro htail)]; rfl

end

/-! ## The range and its sum (R91) -/

/-- Offsets 2 to 7, where the first two bytes stand apart: neither of them is in the range (R91, R155). -/
theorem dataRange_cons_cons (h n : Byte) (t : List Byte) : dataRange (h :: n :: t) = t.take 6 := rfl

/-- The checksum of six bytes is their 8-bit sum (R120). -/
theorem checksum_six (a b c d e g : Byte) : checksum [a, b, c, d, e, g] = a + b + c + d + e + g := by
  simp only [checksum_cons, checksum_nil, BitVec.ofNat_eq_ofNat, BitVec.add_zero, BitVec.add_assoc]

/-- Settles O26: the length, the range, the offsets 8 and 9 and the two values are all read past the first two bytes. -/
theorem parseIgnoresHeadAndCommandNumber : Obligations.ParseIgnoresHeadAndCommandNumber := by
  unfold Obligations.ParseIgnoresHeadAndCommandNumber
  intro h n h' n' t
  simp only [parse, List.length_cons, dataRange_cons_cons, List.getD_cons_succ]

/-- Settles O53: each clause is one test's lemma, at the sum of the six bytes of the range. -/
theorem parseTestsLengthThenChecksumThenTail : Obligations.ParseTestsLengthThenChecksumThenTail := by
  unfold Obligations.ParseTestsLengthThenChecksumThenTail
  refine ⟨fun f hlen => parse_of_length_ne hlen, fun f0 f1 f2 f3 f4 f5 f6 f7 f8 f9 => ?_⟩
  have hsum : checksum (dataRange [f0, f1, f2, f3, f4, f5, f6, f7, f8, f9]) = f2 + f3 + f4 + f5 + f6 + f7 :=
    checksum_six f2 f3 f4 f5 f6 f7
  exact ⟨fun hne => parse_of_checksum_ne rfl (hsum.trans_ne hne),
    fun heq htail => parse_of_tail_ne rfl (hsum.trans heq) htail,
    fun heq htail => parse_of_valid rfl (hsum.trans heq) htail⟩

/-! ## The sensor's frame (R157) -/

/-- A two-byte field put together from its own two bytes, least significant first (R16). -/
theorem little_lo8_hi8 (v : Half) : little (lo8 v) (hi8 v) = v := by
  apply BitVec.eq_of_toNat_eq
  have hv : v.toNat < 65536 := v.isLt
  simp only [little, lo8, hi8, BitVec.toNat_ofNat, BitVec.extractLsb'_toNat, Nat.shiftRight_eq_div_pow]
  omega

/-- Settles O25: the sensor's frame passes the three tests by its layout, and each value comes back from its two
bytes. -/
theorem sensorFrameRoundTrip : Obligations.SensorFrameRoundTrip := by
  unfold Obligations.SensorFrameRoundTrip
  intro v1 v2 id no
  calc parse (sensorFrame v1 v2 id no).toList
      = .ok (little (lo8 v1) (hi8 v1), little (lo8 v2) (hi8 v2)) := parse_of_valid rfl rfl rfl
    _ = .ok (v1, v2) := by rw [little_lo8_hi8, little_lo8_hi8]

/-! ## One changed byte (R156) -/

/-- Replacing one byte keeps the checksum only when the new byte is the old one: addition of bytes cancels. -/
theorem checksum_set_eq_iff (s : List Byte) (i : Nat) (hi : i < s.length) (b : Byte) :
    checksum (s.set i b) = checksum s ↔ b = s[i] := by
  induction s generalizing i with
  | nil => exact absurd hi (Nat.not_lt_zero i)
  | cons a s ih =>
    cases i with
    | zero => simp only [List.set_cons_zero, checksum_cons, BitVec.add_left_inj, List.getElem_cons_zero]
    | succ i =>
      have hi' : i < s.length := Nat.lt_of_succ_lt_succ hi
      simp only [List.set_cons_succ, checksum_cons, BitVec.add_right_inj, List.getElem_cons_succ, ih i hi']

/-- A byte written past offset 1 is written two places earlier in the range, if it is in the range at all (R91). -/
theorem dataRange_set (f : List Byte) (i : Nat) (h2 : 2 ≤ i) (b : Byte) :
    dataRange (f.set i b) = (dataRange f).set (i - 2) b := by
  simp only [dataRange, slice, List.drop_set, if_neg h2.not_gt, List.take_set]

/-- In a frame with the right checksum, any other byte at one of offsets 2 to 8 is noticed (R156): within the range it
moves the sum away from offset 8, at offset 8 it moves offset 8 away from the sum. -/
theorem parse_set_of_ne {f : List Byte} (hlen : f.length = 10) (hck : checksum (dataRange f) = f.getD 8 0)
    {i : Nat} (h2 : 2 ≤ i) (h8 : i ≤ 8) (hi : i < f.length) {b : Byte} (hb : b ≠ f[i]) :
    parse (f.set i b) = .error .checksumMismatch := by
  have hrange : (dataRange f).length = 6 := by simp [dataRange, slice, hlen]
  refine parse_of_checksum_ne (by rw [List.length_set, hlen]) ?_
  rw [dataRange_set f i h2]
  rcases h8.lt_or_eq with hlt | rfl
  · have hkept : (f.set i b).getD 8 0 = f.getD 8 0 := by simp [List.getD, hlt.ne]
    have hin : i - 2 < (dataRange f).length := by omega
    have hold : (dataRange f)[i - 2] = f[i] := by
      simp only [dataRange, slice, List.getElem_take, List.getElem_drop, Nat.add_sub_cancel' h2]
    rw [hkept, ← hck, Ne, checksum_set_eq_iff _ _ hin, hold]
    exact hb
  · have hnew : (f.set 8 b).getD 8 0 = b := by simp [List.getD, hi]
    have hold : f.getD 8 0 = f[8] := List.getD_eq_getElem f 0 hi
    rw [hnew, List.set_eq_of_length_le hrange.le, hck, hold]
    exact hb.symm

/-- A flipped bit makes another byte: the two differ in that bit. -/
theorem xor_twoPow_ne (x : Byte) (j : Fin 8) : x ^^^ BitVec.twoPow 8 j.val ≠ x := by
  intro h
  have hbit : (x ^^^ BitVec.twoPow 8 j.val).getLsbD j.val = x.getLsbD j.val := by rw [h]
  simp at hbit

/-- The ten bytes of a frame, one by one. -/
theorem toList_eq_ten (f : Vector Byte 10) :
    f.toList = [f[0], f[1], f[2], f[3], f[4], f[5], f[6], f[7], f[8], f[9]] := by
  apply List.ext_getElem (by simp)
  intro i hi _
  rw [Vector.length_toList] at hi
  interval_cases i <;> rfl

/-- Settles O24: a frame with the right sum and tail passes the three tests; a flipped bit is another byte at its
offset, which `parse_set_of_ne` notices. -/
theorem singleBitCorruptionIsDetected : Obligations.SingleBitCorruptionIsDetected := by
  unfold Obligations.SingleBitCorruptionIsDetected
  intro f hsum htail
  have hlen : f.toList.length = 10 := f.length_toList
  have hck : checksum (dataRange f.toList) = f.toList.getD 8 0 := by
    have hsix : checksum [f[2], f[3], f[4], f[5], f[6], f[7]] = f[8] := by
      apply BitVec.eq_of_toNat_eq
      rw [toNat_checksum, hsum]
      simp only [List.map_cons, List.map_nil, List.sum_cons, List.sum_nil, Nat.add_zero, Nat.add_assoc]
    rw [toList_eq_ten]; exact hsix
  refine ⟨?_, fun i j h2 h8 => ?_⟩
  · rw [parse_of_valid hlen hck (by rw [toList_eq_ten]; exact htail), toList_eq_ten]; rfl
  · rw [Vector.toList_set]
    exact parse_set_of_ne hlen hck h2 h8 (by omega) (xor_twoPow_ne _ j)

end Sys2Proof.Machine

/-! SUPPORT. The steps of a cycle (43_stream_reader.md): what `Resync` does at each side of its bound, what each of the
block's own steps makes of the next byte, and the scan that meets no head. -/

namespace Sys2Proof.Machine

open Sys2Proof.Statements

/-! ## `Resync` (R176) -/

/-- An error in a running cycle ends it (R178, R250). -/
theorem State.failRequest_eq_cycleEnded (s : State) (e : ErrorKind) (h : s.busy = true) :
    s.failRequest e = cycleEnded s (.error e) :=
  s.failRequest_of_busy e h

/-- With an attempt left, the nine bytes after the head are scanned again (R176). -/
theorem State.resync_of_not_reached (s : State) (f : Vector Byte 10) (h : s.limit.reached s.rsCnt = false) :
    s.resync f = resynchronized s [f[1], f[2], f[3], f[4], f[5], f[6], f[7], f[8], f[9]] := by
  rcases s.resync_cases f with ⟨hreached, _⟩ | ⟨_, hresync⟩
  · exact absurd hreached (Bool.eq_false_iff.mp h)
  · rw [hresync, toList_eq_ten]; rfl

/-- With no attempt left, the cycle ends (R176). -/
theorem State.resync_of_reached (s : State) (f : Vector Byte 10) (hbusy : s.busy = true)
    (h : s.limit.reached s.rsCnt = true) : s.resync f = cycleEnded s (.error .desyncExceeded) := by
  rcases s.resync_cases f with ⟨_, hresync⟩ | ⟨hleft, _⟩
  · rw [hresync, s.failRequest_eq_cycleEnded _ hbusy]
  · exact absurd h (Bool.eq_false_iff.mp hleft)

/-- Settles O54: the three clauses are the two values of `Limit.reached`, read off the limit. -/
theorem resyncStopsAtTheLimit : Obligations.ResyncStopsAtTheLimit := by
  unfold Obligations.ResyncStopsAtTheLimit
  refine fun s f hbusy => ⟨fun hlim => ?_, fun N hlim hlt => ?_, fun N hlim hle => ?_⟩
  · exact s.resync_of_not_reached f (by rw [hlim, Limit.reached_unbounded])
  · exact s.resync_of_not_reached f (by rw [hlim, Limit.reached_atMost, decide_eq_false hlt.not_ge])
  · exact s.resync_of_reached f hbusy (by rw [hlim, Limit.reached_atMost, decide_eq_true hle])

/-! ## The block's own steps in a cycle (R173 to R175) -/

/-- On the block's turn the step is the block's own event (R179, R291). -/
theorem State.fetch_of_blockTurn {s : State} (h : blockTurn s = true) : s.fetch = s.fetchOwn := by
  unfold blockTurn at h
  rcases s.fetch_cases with hf | ⟨_, hm, _⟩ | ⟨_, hm, _⟩ | ⟨_, hm, _⟩ | ⟨_, _, _, hm, hidle, _⟩ |
    ⟨_, _, _, _, hm, hidle, _⟩
  · exact hf
  · simp [hm] at h
  · simp [hm] at h
  · simp [hm] at h
  · simp [hm, hidle] at h
  · simp [hm, hidle] at h

/-- The bytes of a data frame are its fields, where head and tail are right (R88). -/
theorem dataFrame_of_bytes (f : Vector Byte 10) (hhead : f[0] = headByte) (htail : f[9] = tailByte) :
    dataFrame f[1] f[2] f[3] f[4] f[5] (idOf f[6] f[7]) f[8] = f := by
  apply Vector.toList_inj.mp
  rw [dataFrame_toList, hi8_idOf, lo8_idOf, ← hhead, ← htail, ← toList_eq_ten]

/-- A candidate that is a data frame, run as an operation, is validated as it stands (R175). -/
theorem exec_of_decodeDataFrame {f : Vector Byte 10} {i : Instr} (h : decodeDataFrame f.toList = .ok i) (s : State) :
    exec i s = .next (s.validateStep f) := by
  rw [toList_eq_ten] at h
  unfold decodeDataFrame at h
  dsimp only at h
  split_ifs at h with hhead htail hno
  all_goals
    cases h
    conv_rhs => rw [← dataFrame_of_bytes f (not_not.mp hhead) (not_not.mp htail)]
  · rw [hno]; rfl
  · rfl

section
variable {s : State} (hturn : blockTurn s = true)
include hturn

/-- The step in `SEEK_HEAD` (R173). -/
theorem step_of_seeking (h : s.Seeking) : step s = .next s.seekHeadStep := by
  obtain ⟨_, hst, htxi⟩ := h
  have hnw : ¬ s.Writing := fun ⟨_, hop, hlt⟩ => absurd (htxi hop) hlt.ne
  simp [step, State.fetch_of_blockTurn hturn, State.fetchOwn, if_neg hnw, hst]

/-- The step in `READ_BODY` (R174). -/
theorem step_of_readingBody (hnw : ¬ s.Writing) (h : s.ReadingBody) : step s = .next s.readBodyStep := by
  simp [step, State.fetch_of_blockTurn hturn, State.fetchOwn, if_neg hnw, h.2]

/-- The step in `VALIDATE`, whether or not a row matches the candidate (R175). -/
theorem step_of_validating (hnw : ¬ s.Writing) (h : s.Validating) : step s = .next (s.validateStep s.buf) := by
  obtain ⟨hbusy, hst⟩ := h
  rw [step, State.fetch_of_blockTurn hturn]
  rcases s.fetchOwn_cases with ⟨hw, _⟩ | ⟨_, hseek, _⟩ | ⟨_, hread, _⟩ | ⟨_, _, ⟨i, hrow, hown⟩ | hown⟩ |
    ⟨_, hidle, _⟩
  · exact absurd hw hnw
  · simp [hst] at hseek
  · simp [hst] at hread
  · rw [hown]; exact exec_of_decodeDataFrame hrow s
  · rw [hown]
  · simp [hbusy] at hidle

end

/-! ## What the steps make of the next byte (R173, R174) -/

/-- A `Timeout` answer ends a running cycle, the status by its operation (R177, R204). -/
theorem State.timeoutExit_of_busy (s : State) (h : s.busy = true) :
    s.timeoutExit = cycleEnded s (.error (timeoutStatus s.op)) := by
  unfold State.timeoutExit
  cases s.op <;> exact s.failRequest_eq_cycleEnded _ h

/-- `TimeoutExit` after a pull: the pull leaves `busy` and `op` alone (R52, R177). -/
theorem State.timeoutExit_nextByte (s : State) (h : s.busy = true) :
    s.nextByte.2.timeoutExit = cycleEnded s.nextByte.2 (.error (timeoutStatus s.op)) := by
  rw [s.nextByte.2.timeoutExit_of_busy (s.nextByte_busy.trans h), s.nextByte_op]

section
variable {s : State} (hturn : blockTurn s = true)
include hturn

/-- The search ends with the cycle at a `Timeout` (R173, R177). -/
theorem step_seeking_timeout (h : s.Seeking) (hnext : s.nextByte.1 = .timeout) :
    step s = .next (cycleEnded s.nextByte.2 (.error (timeoutStatus s.op))) := by
  rw [step_of_seeking hturn h, ← s.timeoutExit_nextByte h.1]
  rcases s.seekHeadStep_cases h with ⟨_, hstep⟩ | ⟨b, _, hb, _⟩ | ⟨hb, _⟩
  · rw [hstep]
  · simp [hnext] at hb
  · simp [hnext] at hb

/-- Noise is dropped (R173). -/
theorem step_seeking_noise (h : s.Seeking) {b : Byte} (hnext : s.nextByte.1 = .byte b) (hb : b ≠ headByte) :
    step s = .next s.nextByte.2 := by
  rw [step_of_seeking hturn h]
  rcases s.seekHeadStep_cases h with ⟨hb', _⟩ | ⟨_, _, _, hstep⟩ | ⟨hb', _⟩
  · simp [hnext] at hb'
  · rw [hstep]
  · exact absurd (RxAnswer.byte.inj (hnext.symm.trans hb')) hb

/-- A head begins a candidate (R173). -/
theorem step_seeking_head (h : s.Seeking) (hnext : s.nextByte.1 = .byte headByte) :
    step s = .next
      { s.nextByte.2 with buf := s.nextByte.2.buf.setIfInBounds 0 headByte, cnt := 1, st := .readBody } := by
  rw [step_of_seeking hturn h]
  rcases s.seekHeadStep_cases h with ⟨hb, _⟩ | ⟨b, hne, hb, _⟩ | ⟨_, hstep⟩
  · simp [hnext] at hb
  · exact absurd (RxAnswer.byte.inj (hb.symm.trans hnext)) hne
  · rw [hstep]

/-- The body ends with the cycle at a `Timeout` (R174, R177). -/
theorem step_reading_timeout (hnw : ¬ s.Writing) (h : s.ReadingBody) (hnext : s.nextByte.1 = .timeout) :
    step s = .next (cycleEnded s.nextByte.2 (.error (timeoutStatus s.op))) := by
  rw [step_of_readingBody hturn hnw h, ← s.timeoutExit_nextByte h.1]
  rcases s.readBodyStep_cases h with ⟨_, hstep⟩ | ⟨b, hb, _⟩
  · rw [hstep]
  · simp [hnext] at hb

/-- A body byte goes to its place, and the tenth byte completes the candidate (R174). -/
theorem step_reading_byte (hnw : ¬ s.Writing) (h : s.ReadingBody) {b : Byte} (hnext : s.nextByte.1 = .byte b) :
    step s = .next
      { s.nextByte.2 with
        buf := s.nextByte.2.buf.setIfInBounds s.cnt b, cnt := s.cnt + 1,
        st := if s.cnt + 1 = 10 then .validate else .readBody } := by
  rw [step_of_readingBody hturn hnw h]
  rcases s.readBodyStep_cases h with ⟨hb, _⟩ | ⟨b', hb, hstep⟩
  · simp [hnext] at hb
  · cases RxAnswer.byte.inj (hnext.symm.trans hb)
    rw [hstep, s.nextByte_cnt]

end

/-- Settles O34: the three outcomes of the enabled `SEEK_HEAD` step, at the byte `NextByte` answers. -/
theorem seekHeadStepSkipsOrTakesTheHead : Obligations.SeekHeadStepSkipsOrTakesTheHead := by
  unfold Obligations.SeekHeadStepSkipsOrTakesTheHead
  intro s u a hturn hseek hnext
  obtain ⟨rfl, rfl⟩ : s.nextByte.1 = a ∧ s.nextByte.2 = u := by rw [hnext]; exact ⟨rfl, rfl⟩
  refine ⟨fun ha => ?_, fun b ha hb => ?_, fun ha => ?_⟩
  · exact step_seeking_timeout hturn hseek ha
  · exact step_seeking_noise hturn hseek ha hb
  · have hset : s.nextByte.2.buf.setIfInBounds 0 headByte = s.nextByte.2.buf.set 0 0xAA := by
      ext i hi
      rw [Vector.getElem_setIfInBounds, Vector.getElem_set]; rfl
    rw [← hset]
    exact step_seeking_head hturn hseek ha

/-! ## A scan with no head in it (R184) -/

/-- A run that begins with a step that answers next goes on from there. -/
theorem core_run_succ {s t : State} (n : Nat) (h : step s = .next t) :
    Sys2Proof.core.run (n + 1) s = Sys2Proof.core.run n t := by
  have hcore : Sys2Proof.core.step s = .next t := h
  simp only [Host.Core.run, hcore]

/-- `NextByte` with an empty replay queue takes what the transport holds next (R51, R172). -/
theorem State.nextByte_of_rx {s : State} {a : RxAnswer} {rest : List RxAnswer} (hpend : s.pend = [])
    (hrx : s.rx = a :: rest) : s.nextByte = (a, { s with rx := rest, handed := some s.timeout }) := by
  simp only [State.nextByte, hpend, State.rxPull, hrx]

/-- Settles O40, by induction on the answers before the `Timeout`: each one is dropped in one step, which leaves a READ
cycle over the answers after it. -/
theorem noHeadNoReading : Obligations.NoHeadNoReading := by
  unfold Obligations.NoHeadNoReading
  intro s answers later hturn hseek hop hpend hnoise hrx
  induction answers generalizing s with
  | nil =>
    have hnext := State.nextByte_of_rx hpend hrx
    have hstatus : timeoutStatus s.op = .timeout := by rw [hop]; rfl
    have hstep := step_seeking_timeout hturn hseek (by rw [hnext])
    rw [hnext, hstatus] at hstep
    exact core_run_succ 0 hstep
  | cons a answers ih =>
    have hnext := State.nextByte_of_rx hpend hrx
    obtain ⟨hnotTimeout, hnotHead⟩ := hnoise a List.mem_cons_self
    cases a with
    | timeout => exact absurd rfl hnotTimeout
    | byte b =>
      have hb : b ≠ headByte := fun h => hnotHead (congrArg RxAnswer.byte h)
      have hstep := step_seeking_noise hturn hseek (by rw [hnext]) hb
      rw [hnext] at hstep
      rw [List.length_cons, core_run_succ _ hstep]
      exact ih _ hturn hseek hop hpend (fun a ha => hnoise a (List.mem_cons_of_mem _ ha)) rfl

end Sys2Proof.Machine

/-! SUPPORT. The closed form of a cycle (R181): the heads examined one by one, the invariant of a scan over the bytes the
transport holds, and the cycle that ends as the heads say. -/

namespace Sys2Proof.Machine

open Sys2Proof.Statements

/-! ## The heads in the order the cycle examines them (R181) -/

section
variable (expect : Byte) (limit : Limit) (bytes : List Byte)

/-- The cycle's end from the heads still to be examined, after `k` failed ones. -/
def examineHeads : List Nat → Nat → CycleEnd
  | [], _ => .timedOut
  | p :: heads, k =>
    if bytes.length < p + 10 then .timedOut
    else if goodAt expect bytes p then .found p
    else if limit.reached k then .desynced p
    else examineHeads heads (k + 1)

/-- The three reasons to stop at a head, (c) in the words of `Resync` (R176, R181). -/
theorem stopsAt_eq (p k : Nat) : stopsAt expect limit bytes p k =
    (decide (bytes.length < p + 10) || goodAt expect bytes p || limit.reached k) := by
  cases limit <;> rfl

/-- The closed form looks for the first head to stop at; examining them in order finds the same one. -/
theorem closedForm_eq_examineHeads :
    closedForm expect limit bytes = examineHeads expect limit bytes (headPositions bytes) 0 := by
  unfold closedForm
  generalize headPositions bytes = heads
  generalize 0 = k
  induction heads generalizing k with
  | nil => rfl
  | cons p heads ih =>
    rw [List.zipIdx_cons, List.find?_cons, stopsAt_eq, examineHeads]
    by_cases hshort : bytes.length < p + 10
    · simp [hshort]
    by_cases hgood : goodAt expect bytes p = true
    · simp [hshort, hgood]
    by_cases hreached : limit.reached k = true
    · simp [hshort, hgood, hreached]
    · simp only [hshort, hgood, hreached, decide_false, Bool.or_false, if_false]
      exact ih (k + 1)

end

/-- What is known of a list from what is left of it past `p`. -/
theorem drop_eq_cons {bytes rest : List Byte} {p : Nat} {b : Byte} (h : bytes.drop p = b :: rest) :
    p < bytes.length ∧ bytes.getD p 0 = b ∧ bytes.drop (p + 1) = rest := by
  have hp : p < bytes.length := by
    by_contra hle
    rw [List.drop_eq_nil_of_le (not_lt.mp hle)] at h
    cases h
  rw [List.drop_eq_getElem_cons hp] at h
  obtain ⟨hb, hrest⟩ := List.cons.inj h
  exact ⟨hp, (List.getD_eq_getElem bytes 0 hp).trans hb, hrest⟩

/-- The heads at `p` and after it. -/
def headsFrom (bytes : List Byte) (p : Nat) : List Nat :=
  (List.range' p (bytes.length - p)).filter fun q => bytes.getD q 0 == headByte

/-- From the first position on, these are all the heads. -/
theorem headsFrom_zero (bytes : List Byte) : headsFrom bytes 0 = headPositions bytes := by
  rw [headsFrom, headPositions, List.range_eq_range', Nat.sub_zero]

/-- Past the last byte there is no head. -/
theorem headsFrom_of_drop_nil {bytes : List Byte} {p : Nat} (h : bytes.drop p = []) : headsFrom bytes p = [] := by
  rw [headsFrom, Nat.sub_eq_zero_of_le (List.drop_eq_nil_iff.mp h)]; rfl

/-- The heads from `p` on, by the byte that stands there. -/
theorem headsFrom_of_drop_cons {bytes rest : List Byte} {p : Nat} {b : Byte} (h : bytes.drop p = b :: rest) :
    headsFrom bytes p = if b = headByte then p :: headsFrom bytes (p + 1) else headsFrom bytes (p + 1) := by
  obtain ⟨hp, hb, _⟩ := drop_eq_cons h
  have hlen : bytes.length - p = bytes.length - (p + 1) + 1 := by omega
  simp only [headsFrom, hlen, List.range'_succ, List.filter_cons, hb, beq_iff_eq]

/-! ## Candidates (R181) -/

/-- A byte of a candidate is a byte of the stream. -/
theorem getElem_candidateAt (bytes : List Byte) (p i : Nat) (hi : i < 10) :
    (candidateAt bytes p)[i] = bytes.getD (p + i) 0 := by
  simp only [candidateAt, Vector.getElem_ofFn]

/-- A candidate with all its bytes there is a piece of the stream. -/
theorem toList_candidateAt {bytes : List Byte} {p : Nat} (h : p + 10 ≤ bytes.length) :
    (candidateAt bytes p).toList = (bytes.drop p).take 10 := by
  apply List.ext_getElem
  · rw [Vector.length_toList, List.length_take, List.length_drop]; omega
  · intro i hi _
    rw [Vector.length_toList] at hi
    have hin : p + i < bytes.length := by omega
    rw [Vector.getElem_toList, getElem_candidateAt, List.getElem_take, List.getElem_drop, List.getD_eq_getElem _ _ hin]

/-- Replaying a failed candidate's body puts the scan one byte past its head (R176). -/
theorem body_append_drop {bytes : List Byte} {p : Nat} (h : p + 10 ≤ bytes.length) :
    (candidateAt bytes p).toList.drop 1 ++ bytes.drop (p + 10) = bytes.drop (p + 1) := by
  have hten : 9 ≤ (bytes.drop (p + 1)).length := by rw [List.length_drop]; omega
  rw [toList_candidateAt h, List.drop_take, List.drop_drop, ← List.take_append_drop 9 (bytes.drop (p + 1)), List.drop_drop]
  simp

/-- `Good(p)` for a complete candidate: the two tests of the `VALIDATE` step (R175, R181). -/
theorem goodAt_iff {bytes : List Byte} {p : Nat} (expect : Byte) (h : p + 10 ≤ bytes.length) :
    goodAt expect bytes p = true ↔
      (∃ v, parse (candidateAt bytes p).toList = .ok v) ∧ (candidateAt bytes p)[1] = expect := by
  rw [goodAt, decide_eq_true h, Bool.true_and, Bool.and_eq_true, beq_iff_eq, getElem_candidateAt]
  cases parse (candidateAt bytes p).toList <;> simp [Except.toBool]

/-- The two values of a frame that parses are its two little-endian fields (R153). -/
theorem values_of_parse_eq_ok {f : Vector Byte 10} {v1 v2 : Half} (h : parse f.toList = .ok (v1, v2)) :
    v1 = u16le f[2] f[3] ∧ v2 = u16le f[4] f[5] := by
  rw [toList_eq_ten, parse] at h
  split_ifs at h
  cases h
  exact ⟨rfl, rfl⟩

/-! ## What a running scan leaves alone -/

/-- The state with everything a running scan works on blanked: the scanner, the accumulator and the receive side. -/
def State.latched (s : State) : State :=
  { s with
    pend := [], rx := [], freePulls := 0, handed := none, buf := Vector.replicate 10 0, cnt := 0, st := .seekHead,
    rsCnt := 0, acc := 0 }

/-- `NextByte` works on the replay queue and the receive side only (R172). -/
theorem State.latched_nextByte (s : State) : s.nextByte.2.latched = s.latched := by
  obtain ⟨p, r, n, h, hframe⟩ := s.nextByte_frame
  rw [hframe]
  rfl

/-- It is the block's turn in a cycle whose command, if it has one, is written: what every step of a scan needs. -/
def State.Scanning (s : State) : Prop := blockTurn s = true ∧ s.busy = true ∧ (s.op = .xchg → s.txi = 19)

section
variable {s : State}

/-- The parameters of a cycle stay (R25). -/
theorem State.parameters_of_latched_eq {u : State} (h : u.latched = s.latched) :
    u.op = s.op ∧ u.limit = s.limit ∧ u.expect = s.expect := by
  simp only [State.latched, State.mk.injEq] at h
  simp only [h, and_self]

/-- What the host and the far end of TX see stays, until the response. -/
theorem State.outside_of_latched_eq {u : State} (h : u.latched = s.latched) :
    u.rsp = s.rsp ∧ u.tx = s.tx ∧ u.cfgOut = s.cfgOut ∧ u.moves = s.moves ∧ u.devid = s.devid ∧ u.maxrs = s.maxrs ∧
      u.rsen = s.rsen ∧ u.timeout = s.timeout := by
  simp only [State.latched, State.mk.injEq] at h
  simp only [h, and_self]

/-- None of it is what a scan works on. -/
theorem State.Scanning.of_latched_eq {u : State} (hs : s.Scanning) (h : u.latched = s.latched) : u.Scanning := by
  have hlatched : s.latched.Scanning := hs
  rw [← h] at hlatched
  exact hlatched

/-- The write phase is over. -/
theorem State.Scanning.not_writing (h : s.Scanning) : ¬ s.Writing := by
  obtain ⟨_, _, htxi⟩ := h
  exact fun ⟨_, hop, hlt⟩ => absurd (htxi hop) hlt.ne

end

/-! ## The bytes a scan still sees (R172) -/

/-- The bytes still to come before the `Timeout`: those to be replayed, then those the transport holds. -/
def State.Sees (s : State) (rest : List Byte) (later : List RxAnswer) : Prop :=
  ∃ held, s.pend ++ held = rest ∧ s.rx = held.map RxAnswer.byte ++ RxAnswer.timeout :: later

section
variable {s : State} {later : List RxAnswer}

/-- The next byte is the first the scan sees, replayed or pulled. -/
theorem State.Sees.nextByte_cons {b : Byte} {rest : List Byte} (h : s.Sees (b :: rest) later) :
    s.nextByte.1 = .byte b ∧ s.nextByte.2.Sees rest later := by
  obtain ⟨held, hrest, hrx⟩ := h
  rcases s.nextByte_cases with ⟨c, queue, hpend, hnext⟩ | ⟨hpend, _⟩
  · rw [hpend] at hrest
    obtain ⟨rfl, hqueue⟩ := List.cons.inj hrest
    rw [hnext]
    exact ⟨rfl, held, hqueue, hrx⟩
  · rw [hpend, List.nil_append] at hrest
    rw [hrest] at hrx
    rw [State.nextByte_of_rx hpend hrx]
    exact ⟨rfl, rest, by simp [hpend], rfl⟩

/-- With no byte left the answer is the `Timeout`, and it is taken from the transport. -/
theorem State.Sees.nextByte_nil (h : s.Sees [] later) : s.nextByte.1 = .timeout ∧ s.nextByte.2.rx = later := by
  obtain ⟨held, hrest, hrx⟩ := h
  obtain ⟨hpend, rfl⟩ := List.append_eq_nil_iff.mp hrest
  rw [State.nextByte_of_rx hpend hrx]
  exact ⟨rfl, rfl⟩

end

/-! ## The invariant of a scan -/

/-- The scan of the cycle `s₀` began, over `bytes`, a `Timeout` and `later`: in `s` the candidate from position `p` has
`c` of its bytes, after `k` attempts. The bound on the replay queue makes it empty when a candidate is whole (R32 (e)). -/
structure Scan (s₀ : State) (bytes : List Byte) (later : List RxAnswer) (s : State) (p c k : Nat) : Prop where
  kept : s.latched = s₀.latched
  attempts : s.rsCnt = k
  filled : ∀ (i : Nat) (hi : i < 10), i < c → s.buf[i] = (candidateAt bytes p)[i]
  queued : s.pend.length + c ≤ 10
  sees : s.Sees (bytes.drop (p + c)) later

/-- From `s` the steps end the cycle `s₀` began as `e` says (R181). -/
def EndsAs (s₀ : State) (bytes : List Byte) (later : List RxAnswer) (s : State) (e : CycleEnd) : Prop :=
  ∃ n u, Sys2Proof.core.run n s = .next (cycleEnded u (e.response s₀.op bytes)) ∧
    u.latched = s₀.latched ∧ u.rx = e.rest bytes later

section
variable {s₀ : State} {bytes : List Byte} {later : List RxAnswer} {s : State} {p c k : Nat}

/-- How the cycle ends after a step is how it ends. -/
theorem EndsAs.of_step {u : State} {e : CycleEnd} (hu : EndsAs s₀ bytes later u e) (hstep : step s = .next u) :
    EndsAs s₀ bytes later s e := by
  obtain ⟨n, v, hrun, hkept, hrx⟩ := hu
  exact ⟨n + 1, v, (core_run_succ n hstep).trans hrun, hkept, hrx⟩

/-- The step that responds is the end. -/
theorem EndsAs.of_last_step {u : State} {e : CycleEnd} (hkept : u.latched = s₀.latched) (hrx : u.rx = e.rest bytes later)
    (hstep : step s = .next (cycleEnded u (e.response s₀.op bytes))) : EndsAs s₀ bytes later s e :=
  ⟨1, u, core_run_succ 0 hstep, hkept, hrx⟩

/-- A `Timeout` with no byte left ends the cycle as (a) of R181 says. -/
theorem Scan.endsAs_timedOut (h : Scan s₀ bytes later s p c k) (hnil : bytes.drop (p + c) = [])
    (hstep : step s = .next (cycleEnded s.nextByte.2 (.error (timeoutStatus s.op)))) :
    EndsAs s₀ bytes later s .timedOut := by
  obtain ⟨hop, _, _⟩ := State.parameters_of_latched_eq h.kept
  have hresponse : CycleEnd.timedOut.response s₀.op bytes = .error (timeoutStatus s.op) := by
    rw [hop]; cases s₀.op <;> rfl
  refine .of_last_step (s.latched_nextByte.trans h.kept) (State.Sees.nextByte_nil (hnil ▸ h.sees)).2 ?_
  rw [hresponse, hstep]

/-- Dropping a byte moves the scan one place on (R173). -/
theorem Scan.drop_byte (h : Scan s₀ bytes later s p 0 k) {b : Byte} {rest : List Byte} (hb : bytes.drop p = b :: rest) :
    Scan s₀ bytes later s.nextByte.2 (p + 1) 0 k where
  kept := s.latched_nextByte.trans h.kept
  attempts := s.nextByte_rsCnt.trans h.attempts
  filled := fun i _ hi => absurd hi i.not_lt_zero
  queued := by
    have := h.queued
    rw [s.nextByte_pend, List.length_tail]
    omega
  sees := by
    have hsees : s.Sees (b :: rest) later := hb ▸ h.sees
    obtain ⟨_, _, hrest⟩ := drop_eq_cons hb
    exact hrest ▸ hsees.nextByte_cons.2

/-- Storing a byte gives the candidate one more (R173, R174), whatever `cnt` and `st` become. -/
theorem Scan.store_byte (h : Scan s₀ bytes later s p c k) {b : Byte} {rest : List Byte}
    (hb : bytes.drop (p + c) = b :: rest) (hc : c < 10) (n : Nat) (z : ScanState) :
    Scan s₀ bytes later
      { s.nextByte.2 with buf := s.nextByte.2.buf.setIfInBounds c b, cnt := n, st := z } p (c + 1) k where
  kept := s.latched_nextByte.trans h.kept
  attempts := s.nextByte_rsCnt.trans h.attempts
  filled := by
    intro i hi hlt
    obtain ⟨_, hbyte, _⟩ := drop_eq_cons hb
    rw [Vector.getElem_setIfInBounds]
    by_cases hci : c = i
    · subst hci
      rw [if_pos rfl, getElem_candidateAt, hbyte]
    · simp only [if_neg hci, s.nextByte_buf]
      exact h.filled i hi (by omega)
  queued := by
    have := h.queued
    simp only [s.nextByte_pend, List.length_tail]
    omega
  sees := by
    have hsees : s.Sees (b :: rest) later := hb ▸ h.sees
    obtain ⟨_, _, hrest⟩ := drop_eq_cons hb
    exact hrest ▸ hsees.nextByte_cons.2

/-! ## The phases of a candidate -/

/-- With its tenth byte a candidate stands in `buf`. -/
theorem Scan.buf_eq (h : Scan s₀ bytes later s p 10 k) : s.buf = candidateAt bytes p :=
  Vector.ext fun i hi => h.filled i hi hi

/-- With its tenth byte nothing is left to replay, and the transport holds the rest (R174). -/
theorem Scan.rx_eq (h : Scan s₀ bytes later s p 10 k) :
    s.rx = (bytes.drop (p + 10)).map RxAnswer.byte ++ RxAnswer.timeout :: later := by
  have hpend : s.pend = [] := List.length_eq_zero_iff.mp (by have := h.queued; omega)
  obtain ⟨held, hrest, hrx⟩ := h.sees
  rw [hpend, List.nil_append] at hrest
  rw [← hrest, hrx]

section
variable (hs₀ : s₀.Scanning)
include hs₀

/-- `READ_BODY` from `c` bytes on, by induction on the bytes left: a stream too short for the candidate times out, and
otherwise the cycle ends as it does from the whole candidate. -/
theorem Scan.endsAs_of_reading {e : CycleEnd} (hshort : bytes.length < p + 10 → e = .timedOut)
    (hwhole : p + 10 ≤ bytes.length → ∀ u, Scan s₀ bytes later u p 10 k → u.st = .validate →
      EndsAs s₀ bytes later u e)
    (h : Scan s₀ bytes later s p c k) (hst : s.st = .readBody) (hcnt : s.cnt = c) (hc : c < 10) :
    EndsAs s₀ bytes later s e := by
  induction hrest : bytes.drop (p + c) generalizing s c with
  | nil =>
    obtain ⟨hturn, hbusy, _⟩ := hs₀.of_latched_eq h.kept
    have hnw := (hs₀.of_latched_eq h.kept).not_writing
    have hlen : bytes.length ≤ p + c := List.drop_eq_nil_iff.mp hrest
    rw [hshort (by omega)]
    exact h.endsAs_timedOut hrest
      (step_reading_timeout hturn hnw ⟨hbusy, hst⟩ (State.Sees.nextByte_nil (hrest ▸ h.sees)).1)
  | cons b rest ih =>
    obtain ⟨hturn, hbusy, _⟩ := hs₀.of_latched_eq h.kept
    have hnw := (hs₀.of_latched_eq h.kept).not_writing
    obtain ⟨hlt, _, hrest'⟩ := drop_eq_cons hrest
    have hstep := step_reading_byte hturn hnw ⟨hbusy, hst⟩ (State.Sees.nextByte_cons (hrest ▸ h.sees)).1
    rw [hcnt] at hstep
    refine EndsAs.of_step ?_ hstep
    by_cases hlast : c + 1 = 10
    · obtain rfl : c = 9 := by omega
      exact hwhole (by omega) _ (h.store_byte hrest hc _ _) rfl
    · exact ih (h.store_byte hrest hc _ _) (if_neg hlast) rfl (by omega) hrest'

/-- A whole candidate that is good ends the cycle as (b) of R181 says. -/
theorem Scan.endsAs_found (h : Scan s₀ bytes later s p 10 k) (hst : s.st = .validate) (hlen : p + 10 ≤ bytes.length)
    (hgood : goodAt s₀.expect bytes p = true) : EndsAs s₀ bytes later s (.found p) := by
  obtain ⟨hturn, hbusy, _⟩ := hs₀.of_latched_eq h.kept
  obtain ⟨_, _, hexpect⟩ := State.parameters_of_latched_eq h.kept
  have hstep := step_of_validating hturn (hs₀.of_latched_eq h.kept).not_writing ⟨hbusy, hst⟩
  obtain ⟨⟨v, hv⟩, hno⟩ := (goodAt_iff s₀.expect hlen).mp hgood
  rcases s.validateStep_cases s.buf ⟨hbusy, hst⟩ with ⟨v1, v2, hparse, _, hvalid⟩ | ⟨hbad, _⟩
  · obtain ⟨rfl, rfl⟩ := values_of_parse_eq_ok hparse
    rw [hvalid, h.buf_eq] at hstep
    exact .of_last_step (u := s.latchSum (dataRange (candidateAt bytes p).toList)) h.kept h.rx_eq hstep
  · rw [h.buf_eq, hexpect] at hbad
    exact (hbad.elim (fun hparse => hparse v hv) fun hne => hne hno).elim

/-- A whole candidate that is not good goes to `Resync` (R175). -/
theorem Scan.step_bad (h : Scan s₀ bytes later s p 10 k) (hst : s.st = .validate) (hlen : p + 10 ≤ bytes.length)
    (hbad : ¬ goodAt s₀.expect bytes p = true) :
    step s = .next ((s.latchSum (dataRange s.buf.toList)).resync s.buf) := by
  obtain ⟨hturn, hbusy, _⟩ := hs₀.of_latched_eq h.kept
  obtain ⟨_, _, hexpect⟩ := State.parameters_of_latched_eq h.kept
  rw [step_of_validating hturn (hs₀.of_latched_eq h.kept).not_writing ⟨hbusy, hst⟩]
  rcases s.validateStep_cases s.buf ⟨hbusy, hst⟩ with ⟨v1, v2, hparse, hno, _⟩ | ⟨_, hvalid⟩
  · rw [h.buf_eq] at hparse hno
    exact absurd ((goodAt_iff s₀.expect hlen).mpr ⟨⟨_, hparse⟩, hno.trans hexpect⟩) hbad
  · rw [hvalid]

/-- A bad candidate at the limit ends the cycle as (c) of R181 says. -/
theorem Scan.endsAs_desynced (h : Scan s₀ bytes later s p 10 k) (hst : s.st = .validate) (hlen : p + 10 ≤ bytes.length)
    (hbad : ¬ goodAt s₀.expect bytes p = true) (hreached : s₀.limit.reached k = true) :
    EndsAs s₀ bytes later s (.desynced p) := by
  obtain ⟨_, hbusy, _⟩ := hs₀.of_latched_eq h.kept
  obtain ⟨_, hlimit, _⟩ := State.parameters_of_latched_eq h.kept
  have hstep := h.step_bad hs₀ hst hlen hbad
  rw [← hlimit, ← h.attempts] at hreached
  rw [(s.latchSum (dataRange s.buf.toList)).resync_of_reached s.buf hbusy hreached] at hstep
  exact .of_last_step (u := s.latchSum (dataRange s.buf.toList)) h.kept h.rx_eq hstep

/-- A bad candidate below the limit is an attempt, and the scan goes on one byte past its head (R176). -/
theorem Scan.resynchronize (h : Scan s₀ bytes later s p 10 k) (hst : s.st = .validate) (hlen : p + 10 ≤ bytes.length)
    (hbad : ¬ goodAt s₀.expect bytes p = true) (hleft : s₀.limit.reached k = false) :
    ∃ u, step s = .next u ∧ u.st = .seekHead ∧ Scan s₀ bytes later u (p + 1) 0 (k + 1) := by
  obtain ⟨_, hlimit, _⟩ := State.parameters_of_latched_eq h.kept
  have hstep := h.step_bad hs₀ hst hlen hbad
  rcases (s.latchSum (dataRange s.buf.toList)).resync_cases s.buf with ⟨hreached, _⟩ | ⟨_, hresync⟩
  · rw [s.latchSum_limit, s.latchSum_rsCnt, hlimit, h.attempts, hleft] at hreached
    exact absurd hreached Bool.false_ne_true
  · rw [hresync] at hstep
    refine ⟨_, hstep, rfl, h.kept, congrArg (· + 1) h.attempts, fun i _ hi => absurd hi i.not_lt_zero, ?_,
      bytes.drop (p + 10), ?_, h.rx_eq⟩
    · simp
    · rw [h.buf_eq]; exact body_append_drop hlen

/-! ## The cycle -/

/-- From `SEEK_HEAD` at position `p` after `k` attempts, by induction on the bytes left: the cycle ends as the heads from
`p` on say, examined in their order (R181). -/
theorem Scan.endsAs_examineHeads (h : Scan s₀ bytes later s p 0 k) (hst : s.st = .seekHead) :
    EndsAs s₀ bytes later s (examineHeads s₀.expect s₀.limit bytes (headsFrom bytes p) k) := by
  induction hrest : bytes.drop p generalizing s p k with
  | nil =>
    obtain ⟨hturn, hbusy, htxi⟩ := hs₀.of_latched_eq h.kept
    rw [headsFrom_of_drop_nil hrest]
    exact h.endsAs_timedOut hrest
      (step_seeking_timeout hturn ⟨hbusy, hst, htxi⟩ (State.Sees.nextByte_nil (hrest ▸ h.sees)).1)
  | cons b rest ih =>
    obtain ⟨hturn, hbusy, htxi⟩ := hs₀.of_latched_eq h.kept
    obtain ⟨_, _, hrest'⟩ := drop_eq_cons hrest
    have hnext : s.nextByte.1 = .byte b := (State.Sees.nextByte_cons (hrest ▸ h.sees)).1
    rw [headsFrom_of_drop_cons hrest]
    by_cases hb : b = headByte
    · subst hb
      rw [if_pos rfl, examineHeads]
      refine EndsAs.of_step ?_ (step_seeking_head hturn ⟨hbusy, hst, htxi⟩ hnext)
      refine (h.store_byte hrest (by omega) 1 .readBody).endsAs_of_reading hs₀ (fun hshort => if_pos hshort)
        (fun hlen u hu hust => ?_) rfl rfl (by omega)
      rw [if_neg hlen.not_gt]
      split_ifs with hgood hreached
      · exact hu.endsAs_found hs₀ hust hlen hgood
      · exact hu.endsAs_desynced hs₀ hust hlen hgood hreached
      · obtain ⟨v, hstep, hvst, hv⟩ := hu.resynchronize hs₀ hust hlen hgood (Bool.eq_false_iff.mpr hreached)
        exact (ih hv hvst hrest').of_step hstep
    · rw [if_neg hb]
      exact (ih (h.drop_byte hrest) (s.nextByte_st.trans hst) hrest').of_step
        (step_seeking_noise hturn ⟨hbusy, hst, htxi⟩ hnext hb)

end
end

/-- Settles O39: the start of a scan meets its invariant at position 0, and what the end leaves alone is what no step of
the scan works on. -/
theorem cycleComputesItsClosedForm : Obligations.CycleComputesItsClosedForm := by
  unfold Obligations.CycleComputesItsClosedForm
  intro s bytes later hturn hseek hpend hattempts hrx
  obtain ⟨hbusy, hst, htxi⟩ := hseek
  have hscan : Scan s bytes later s 0 0 0 :=
    { kept := rfl
      attempts := hattempts
      filled := fun i _ hi => absurd hi i.not_lt_zero
      queued := by simp [hpend]
      sees := ⟨bytes, by rw [hpend]; rfl, hrx⟩ }
  have hends := hscan.endsAs_examineHeads ⟨hturn, hbusy, htxi⟩ hst
  rw [headsFrom_zero, ← closedForm_eq_examineHeads] at hends
  obtain ⟨n, u, hrun, hkept, hleft⟩ := hends
  obtain ⟨hrsp, hframe⟩ := State.outside_of_latched_eq hkept
  exact ⟨n, _, hrun, rfl, ⟨rfl, rfl, rfl, rfl, rfl⟩, congrArg (· ++ _) hrsp, hleft, hframe⟩

end Sys2Proof.Machine

/-! SUPPORT. The exchange (44_exchange.md): its acceptance, the write steps that push the command, and the run that puts
them before the closed form of the single-frame cycle. -/

namespace Sys2Proof.Machine

open Sys2Proof.Statements

/-! ## Acceptance (R201) -/

/-- The four XCHG rows are one acceptance, at their kind (R200, R201). -/
theorem exec_exchangeOf (kind : Kind) (dir : Direction) (p : Byte) (s : State) :
    exec (exchangeOf kind dir p) s = .next (s.whenIdle fun s => s.acceptExchange kind dir p) := by
  cases kind <;> rfl

/-- The checksum over the frame just built leaves its sum in the accumulator (R87, R122). -/
theorem State.latchSum_commandRange_wireFrame (s : State) (k d m : Byte) (id : Half) :
    s.latchSum (commandRange (wireFrame k d m id)) = { s with acc := commandSum k d m id } := by
  rw [State.latchSum, foldl_accumulate_zero, checksum_commandRange_wireFrame]

/-- An exchange whose frame `Build` returns is begun with that frame (R201). -/
theorem State.acceptExchange_of_build {s : State} {kind : Kind} {dir : Direction} {p k d m : Byte}
    (h : build s.wire kind dir p s.devid = .ok (wireFrame k d m s.devid)) :
    s.acceptExchange kind dir p = exchangeBegun s k d m (replyNumber s.wire kind) := by
  rcases s.acceptExchange_cases kind dir p with ⟨f, hf, haccept⟩ | ⟨e, he, _⟩
  · obtain rfl : f = wireFrame k d m s.devid := Except.ok.inj (hf.symm.trans h)
    rw [haccept, s.latchSum_commandRange_wireFrame]; rfl
  · rw [h] at he; cases he

/-- The idle block begins an exchange with a legal parameter, whatever its kind (R201). -/
theorem exec_exchangeOf_of_build {s : State} {kind : Kind} {dir : Direction} {p k d m : Byte} (hidle : s.busy = false)
    (hbuild : build s.wire kind dir p s.devid = .ok (wireFrame k d m s.devid)) :
    exec (exchangeOf kind dir p) s = .next (exchangeBegun s k d m (replyNumber s.wire kind)) := by
  rw [exec_exchangeOf, s.whenIdle_idle _ hidle, State.acceptExchange_of_build hbuild]

/-- Presented to the idle block, it is begun with the host's move taken (R22, R201). -/
theorem step_begins_exchange {s : State} {kind : Kind} {dir : Direction} {p k d m : Byte} {r : Half} {pf : List Byte}
    {rest : List HostMove} (hidle : s.busy = false) (hmoves : s.moves = .request r pf :: rest)
    (hrow : decodeRequest r = exchangeOf kind dir p)
    (hbuild : build s.wire kind dir p s.devid = .ok (wireFrame k d m s.devid)) :
    step s = .next (exchangeBegun { s with moves := rest, pf := pf } k d m (replyNumber s.wire kind)) := by
  rw [step_request_of_idle s r pf rest hidle hmoves, hrow]
  exact exec_exchangeOf_of_build hidle hbuild

/-! ## The write step (R202) -/

/-- The nineteen bytes of a command frame, offset by offset (R81). -/
theorem toList_eq_nineteen (f : Vector Byte 19) :
    f.toList = [f[0], f[1], f[2], f[3], f[4], f[5], f[6], f[7], f[8], f[9], f[10], f[11], f[12], f[13], f[14], f[15],
      f[16], f[17], f[18]] := by
  apply List.ext_getElem
  · rw [Vector.length_toList]; rfl
  · intro i hi _
    rw [Vector.length_toList] at hi
    interval_cases i <;> rfl

/-- Bytes that decode as a command frame have the layout of R81, and its fields name the row (R102). -/
theorem commandFrame_of_decode {w : WireConstants} {f : Vector Byte 19} {i : Instr}
    (h : decodeCommandFrame w f.toList = .ok i) :
    ∃ k d m id ck, f = commandFrame k d m id ck ∧ decodeKind w k d m id ck = .ok i := by
  rw [toList_eq_nineteen] at h
  unfold decodeCommandFrame at h
  dsimp only at h
  split_ifs at h with hhead hmark hpad htail
  refine ⟨_, _, _, _, _, Vector.toList_inj.mp ?_, h⟩
  simp only [zeros, List.replicate, List.cons.injEq, and_true, not_not] at hhead hmark hpad htail
  rw [commandFrame_toList, toList_eq_nineteen, hi8_idOf, lo8_idOf]
  simp only [hhead, hmark, hpad, htail]

/-- The work time of a command frame goes through the five bits its row keeps of it (R136). -/
theorem zeroExtend_extractLsb'_of_lt {m : Byte} (h : m.toNat < 32) : (m.extractLsb' 0 5).zeroExtend 8 = m := by
  apply BitVec.eq_of_toNat_eq
  rw [BitVec.toNat_setWidth, BitVec.extractLsb'_toNat, Nat.shiftRight_zero]
  omega

/-- The row that the fields of a command frame name writes that frame (R102, R202). -/
theorem exec_of_decodeKind {s : State} {k d m ck : Byte} {id : Half} {i : Instr}
    (h : decodeKind s.wire k d m id ck = .ok i) : exec i s = .next (s.writeStep (commandFrame k d m id ck)) := by
  unfold decodeKind at h
  split_ifs at h with hmode hquery hsleep hperiod
  all_goals cases h
  · rw [hmode]; rfl
  · obtain ⟨rfl, rfl, rfl⟩ := hquery; rfl
  · rw [hsleep]; rfl
  · obtain ⟨rfl, hm⟩ := hperiod
    conv_rhs => rw [← zeroExtend_extractLsb'_of_lt hm]
    rfl

/-- The step in the write phase, whether or not a row matches the frame in `cf` (R202). -/
theorem step_of_writing {s : State} (hturn : blockTurn s = true) (h : s.Writing) :
    step s = .next (s.writeStep s.cf) := by
  rw [step, State.fetch_of_blockTurn hturn]
  rcases s.fetchOwn_cases with ⟨_, ⟨i, hrow, hown⟩ | hown⟩ | ⟨hnw, _⟩ | ⟨hnw, _⟩ | ⟨hnw, _⟩ | ⟨hnw, _⟩
  · obtain ⟨k, d, m, id, ck, hcf, hkind⟩ := commandFrame_of_decode hrow
    rw [hown, hcf]; exact exec_of_decodeKind hkind
  · rw [hown]
  all_goals exact absurd h hnw

/-- A step of the write phase pushes the byte at `txi` of `cf` (R202). -/
theorem step_pushes {s : State} (hturn : blockTurn s = true) (h : s.Writing) (hroom : s.txRoom ≠ some 0) :
    step s = .next (pushed s (s.cf[s.txi]'h.2.2)) := by
  rw [step_of_writing hturn h, s.writeStep_push s.cf h hroom]; rfl

/-! ## The write phase (R202, R53) -/

/-- A push takes one from the room, and leaves room for the bytes still to come (R53). -/
theorem le_of_room_pred {room : Option Nat} {n : Nat} (h : ∀ r, room = some r → n + 1 ≤ r) :
    ∀ r, room.map (· - 1) = some r → n ≤ r := by
  intro r hr
  obtain ⟨a, ha, rfl⟩ := Option.map_eq_some_iff.mp hr
  have := h a ha
  omega

/-- The rest of the command is pushed, by induction on how many of its bytes are left. -/
theorem run_writes_rest {s : State} {n : Nat} (hturn : blockTurn s = true) (hbusy : s.busy = true)
    (hop : s.op = .xchg) (hleft : s.txi + n = 19) (hroom : ∀ r, s.txRoom = some r → n ≤ r) :
    Sys2Proof.core.run n s =
      .next { s with tx := s.tx ++ s.cf.toList.drop s.txi, txi := 19, txRoom := s.txRoom.map (· - n) } := by
  induction n generalizing s with
  | zero =>
    have htxi : s.txi = 19 := hleft
    have hnone : s.cf.toList.drop s.txi = [] := List.drop_eq_nil_of_le (by rw [Vector.length_toList, htxi])
    simp only [hnone, ← htxi, List.append_nil, Nat.sub_zero, Option.map_id']
    rfl
  | succ n ih =>
    have hlt : s.txi < 19 := by omega
    have hstep := step_pushes hturn ⟨hbusy, hop, hlt⟩ fun h => absurd (hroom 0 h) n.not_succ_le_zero
    have hrest := ih (s := pushed s s.cf[s.txi]) hturn hbusy hop ((Nat.succ_add_eq_add_succ _ _).trans hleft)
      (le_of_room_pred hroom)
    rw [core_run_succ n hstep, hrest]
    have hbytes : s.cf.toList.drop s.txi = s.cf[s.txi] :: s.cf.toList.drop (s.txi + 1) := by
      rw [List.drop_eq_getElem_cons (by rw [Vector.length_toList]; exact hlt), Vector.getElem_toList]
    simp only [pushed, hbytes, List.append_assoc, List.singleton_append, Option.map_map, Function.comp_def,
      Nat.sub_sub, Nat.add_comm 1 n]

/-- The write phase is over: the transport has the nineteen bytes of `cf` (R202). -/
def commandWritten (s : State) : State :=
  { s with tx := s.tx ++ s.cf.toList, txi := 19, txRoom := s.txRoom.map (· - 19) }

/-- With room for nineteen bytes the write phase pushes the whole command. -/
theorem run_writes_command {s : State} (hturn : blockTurn s = true) (hbusy : s.busy = true) (hop : s.op = .xchg)
    (htxi : s.txi = 0) (hroom : ∀ r, s.txRoom = some r → 19 ≤ r) :
    Sys2Proof.core.run 19 s = .next (commandWritten s) := by
  rw [run_writes_rest hturn hbusy hop (by omega) hroom, htxi, List.drop_zero, commandWritten]

/-! ## The whole exchange (R200 to R207) -/

/-- Runs put one after the other. -/
theorem core_run_add {s t : State} {m : Nat} (n : Nat) (h : Sys2Proof.core.run m s = .next t) :
    Sys2Proof.core.run (m + n) s = Sys2Proof.core.run n t := by
  induction m generalizing s with
  | zero => cases h; rw [Nat.zero_add]
  | succ m ih =>
    cases hstep : step s with
    | next u =>
      rw [core_run_succ m hstep] at h
      rw [Nat.add_right_comm, core_run_succ (m + n) hstep, ih h]
    | fault r => cases r
    | refused r =>
      have hcore : Sys2Proof.core.step s = .refused r := hstep
      simp only [Host.Core.run, hcore] at h
      cases h

/-- One step accepts the exchange and nineteen push its command, to a host that presents nothing more (R201, R202). -/
theorem run_writes_exchange {s : State} {kind : Kind} {dir : Direction} {p k d m : Byte} {r : Half} {pf : List Byte}
    (hidle : s.busy = false) (hmoves : s.moves = [.request r pf])
    (hrow : decodeRequest r = exchangeOf kind dir p)
    (hbuild : build s.wire kind dir p s.devid = .ok (wireFrame k d m s.devid))
    (hroom : ∀ n, s.txRoom = some n → 19 ≤ n) :
    Sys2Proof.core.run 20 s =
      .next (commandWritten (exchangeBegun { s with moves := [], pf := pf } k d m (replyNumber s.wire kind))) := by
  rw [core_run_succ 19 (step_begins_exchange hidle hmoves hrow hbuild)]
  exact run_writes_command rfl rfl rfl rfl hroom

/-- Settles O21: the exchange is begun and its command written; from there the cycle computes its closed form with limit 0
(O39). -/
theorem exchangeRunsToItsResponse : Obligations.ExchangeRunsToItsResponse := by
  unfold Obligations.ExchangeRunsToItsResponse
  intro s kind dir p r pf f bytes later hidle hmoves hrow hbuild hroom hrx
  obtain ⟨k, d, m, rfl⟩ := exists_wireFrame_of_build hbuild
  have hwrite := run_writes_exchange hidle hmoves hrow hbuild hroom
  obtain ⟨n, t, hcycle, hidle', hatRest, hrsp, hleft, htx, hcfg, hmoves', hdevid, hmaxrs, hrsen, htimeout⟩ :=
    cycleComputesItsClosedForm
      (commandWritten (exchangeBegun { s with moves := [], pf := pf } k d m (replyNumber s.wire kind))) bytes later
      rfl ⟨rfl, rfl, fun _ => rfl⟩ rfl rfl hrx
  exact ⟨20 + n, t, (core_run_add n hwrite).trans hcycle, hidle', hatRest, hmoves', htx, hrsp, hleft, hdevid, hmaxrs,
    hrsen, htimeout, hcfg⟩

end Sys2Proof.Machine

/-! SUPPORT. Decoding what the encoder writes (30_encoding.md sections 3, 5 and 7, 45_config.md): the fields of each kind
of code come back, the request words through their numbers and the reserved words through their bits. -/

namespace Sys2Proof.Machine

open Sys2Proof.Statements

/-! ## Data frames (R88, R89) -/

/-- The bytes of a data frame are read as its fields, and its command number names the row (R89). -/
theorem decodeDataFrame_dataFrame (n a b e g : Byte) (id : Half) (ck : Byte) :
    decodeDataFrame (dataFrame n a b e g id ck).toList =
      if n = dataCmdNo then .ok (.dataMeasurement a b e g id ck) else .ok (.dataReply n a b e g id ck) := by
  rw [dataFrame_toList]
  simp only [decodeDataFrame, ne_eq, not_true, if_false, idOf_hi8_lo8]

/-! ## CFG accesses (R221) -/

/-- The address of a register names it (R221). -/
@[simp] theorem decodeReg_encodeReg (reg : ConfigReg) : decodeReg (encodeReg reg) = reg := by
  cases reg <;> rfl

/-! ## Legal request words (R95, R96) -/

/-- A field appended below a number. -/
theorem toNat_append_eq_add {m n : Nat} (x : BitVec m) (y : BitVec n) :
    (x ++ y).toNat = x.toNat * 2 ^ n + y.toNat := by
  rw [BitVec.toNat_append, ← Nat.shiftLeft_add_eq_or_of_lt y.isLt, Nat.shiftLeft_eq]

/-- The number of a word with `op`, bits 12:10 and the parameter, and bits 9:8 clear (R95). -/
theorem toNat_legalWord (op hi : BitVec 3) (lo : Byte) :
    (op ++ hi ++ (0 : BitVec 2) ++ lo).toNat = op.toNat * 2 ^ 13 + hi.toNat * 2 ^ 10 + lo.toNat := by
  have hzero : (0 : BitVec 2).toNat = 0 := rfl
  rw [toNat_append_eq_add, toNat_append_eq_add, toNat_append_eq_add, hzero]
  omega

/-- Such a word with `op` below 4 is the operation of its `op`, whose kind and direction are coded in bits 12:10 (R95). -/
theorem decodeRequest_legalWord (op hi : BitVec 3) (lo : Byte) (hop : op.toNat < 4) :
    decodeRequest (op ++ hi ++ (0 : BitVec 2) ++ lo) =
      legalOperation op.toNat (kindOfCode (hi.toNat / 2)) (directionOfCode (hi.toNat % 2)) hi lo := by
  have hr := toNat_legalWord op hi lo
  generalize op ++ hi ++ (0 : BitVec 2) ++ lo = r at hr ⊢
  have hhi := hi.isLt
  have hlo := lo.isLt
  have hopField : r.toNat / 2 ^ 13 = op.toNat := by omega
  have hkindField : r.toNat / 2 ^ 11 % 4 = hi.toNat / 2 := by omega
  have hdirField : r.toNat / 2 ^ 10 % 2 = hi.toNat % 2 := by omega
  have hunusedField : r.toNat / 2 ^ 10 % 8 = hi.toNat := by omega
  have hparamField : r.toNat % 2 ^ 8 = lo.toNat := by omega
  rw [decodeRequest_of_legal r (by omega) (by omega), hopField, hkindField, hdirField, hunusedField, hparamField,
    BitVec.ofNat_toNat, BitVec.ofNat_toNat, BitVec.setWidth_eq, BitVec.setWidth_eq]

/-- The direction comes back from its code (R97). -/
theorem directionOfCode_encodeDir (dir : Direction) : directionOfCode (encodeDir dir).toNat = dir := by
  cases dir <;> rfl

/-- A BUILD or XCHG word is a legal word whose bits 12:10 are the kind and the direction (R95). -/
theorem encodeRequest_eq_legalWord (op : BitVec 3) (kind : BitVec 2) (dir : Direction) (param : Byte) :
    encodeRequest op kind dir param = op ++ (kind ++ encodeDir dir : BitVec 3) ++ (0 : BitVec 2) ++ param := by
  simp only [encodeRequest, BitVec.append_assoc, BitVec.cast_eq]

/-- Its operation is that of `op` at the kind and the direction of its codes (R95, R97). -/
theorem decodeRequest_encodeRequest (op : BitVec 3) (kind : BitVec 2) (dir : Direction) (param : Byte)
    (hop : op.toNat < 4) :
    decodeRequest (encodeRequest op kind dir param) =
      legalOperation op.toNat (kindOfCode kind.toNat) dir (kind ++ encodeDir dir) param := by
  have hdirBit := (encodeDir dir).isLt
  have hkindField : (kind ++ encodeDir dir).toNat / 2 = kind.toNat := by rw [toNat_append_eq_add]; omega
  have hdirField : (kind ++ encodeDir dir).toNat % 2 = (encodeDir dir).toNat := by rw [toNat_append_eq_add]; omega
  rw [encodeRequest_eq_legalWord, decodeRequest_legalWord op _ param hop, hkindField, hdirField,
    directionOfCode_encodeDir]

/-! ## Reserved request words (R96, R102; log entry 8) -/

/-- The first test of the request decoder. -/
theorem decodeRequest_of_bit15 {r : Half} (h15 : r.getLsbD 15 = true) :
    decodeRequest r = .reservedOp (r.extractLsb' 0 15) := if_pos h15

/-- The second test, where the first fails. -/
theorem decodeRequest_of_bit8 {r : Half} (h15 : r.getLsbD 15 = false) (h8 : r.getLsbD 8 = true) :
    decodeRequest r = .reservedBit8 (r.extractLsb' 9 7) (r.extractLsb' 0 8) :=
  (if_neg (Bool.eq_false_iff.mp h15)).trans (if_pos h8)

/-- The third test, where the first two fail. -/
theorem decodeRequest_of_bit9 {r : Half} (h15 : r.getLsbD 15 = false) (h8 : r.getLsbD 8 = false)
    (h9 : r.getLsbD 9 = true) :
    decodeRequest r = .reservedBit9 (r.extractLsb' 10 6) (r.extractLsb' 8 1) (r.extractLsb' 0 8) :=
  (if_neg (Bool.eq_false_iff.mp h15)).trans ((if_neg (Bool.eq_false_iff.mp h8)).trans (if_pos h9))

/-- A bit of the low part of an appended word. -/
theorem getLsbD_append_of_lt {m n i : Nat} (x : BitVec m) (y : BitVec n) (h : i < n) :
    (x ++ y).getLsbD i = y.getLsbD i := BitVec.getLsbD_append.trans (if_pos h)

/-- A bit of the high part of an appended word. -/
theorem getLsbD_append_of_le {m n i : Nat} (x : BitVec m) (y : BitVec n) (h : n ≤ i) :
    (x ++ y).getLsbD i = x.getLsbD (i - n) := BitVec.getLsbD_append.trans (if_neg (Nat.not_lt.mpr h))

/-- RESERVED.op4to7: bit 15 is set, and the other bits come back. -/
theorem decodeRequest_op4to7 (rest : BitVec 15) :
    decodeRequest ((1 : BitVec 1) ++ rest) = .reservedOp rest := by
  have h15 : ((1 : BitVec 1) ++ rest).getLsbD 15 = true := getLsbD_append_of_le _ _ (by decide)
  rw [decodeRequest_of_bit15 h15, BitVec.extractLsb'_append_eq_right]

/-- RESERVED.bit8: bit 8 is set and bit 15, the top bit of `hi`, is not. -/
theorem decodeRequest_bit8 (hi : BitVec 7) (lo : Byte) (htop : hi.getLsbD 6 = false) :
    decodeRequest (hi ++ (1 : BitVec 1) ++ lo) = .reservedBit8 hi lo := by
  rw [decodeRequest_of_bit8]
  case h15 => rw [getLsbD_append_of_le _ _ (by decide), getLsbD_append_of_le _ _ (by decide), htop]
  case h8 => rw [getLsbD_append_of_le _ _ (by decide), getLsbD_append_of_lt _ _ (by decide)]; rfl
  rw [BitVec.extractLsb'_append_eq_right, BitVec.extractLsb'_append_eq_of_le (by decide),
    BitVec.extractLsb'_append_eq_left]

/-- RESERVED.bit9: bit 9 is set and neither bit 15, the top bit of `hi`, nor bit 8 is. -/
theorem decodeRequest_bit9 (hi : BitVec 6) (lo : Byte) (htop : hi.getLsbD 5 = false) :
    decodeRequest (hi ++ (1 : BitVec 1) ++ (0 : BitVec 1) ++ lo) = .reservedBit9 hi 0 lo := by
  rw [decodeRequest_of_bit9]
  case h15 =>
    rw [getLsbD_append_of_le _ _ (by decide), getLsbD_append_of_le _ _ (by decide),
      getLsbD_append_of_le _ _ (by decide), htop]
  case h8 => rw [getLsbD_append_of_le _ _ (by decide), getLsbD_append_of_lt _ _ (by decide)]; rfl
  case h9 =>
    rw [getLsbD_append_of_le _ _ (by decide), getLsbD_append_of_le _ _ (by decide),
      getLsbD_append_of_lt _ _ (by decide)]
    rfl
  have hhi : (hi ++ (1 : BitVec 1) ++ (0 : BitVec 1) ++ lo).extractLsb' 10 6 = hi := by
    rw [BitVec.extractLsb'_append_eq_of_le (by decide), BitVec.extractLsb'_append_eq_of_le (by decide),
      BitVec.extractLsb'_append_eq_left]
  have hbit : (hi ++ (1 : BitVec 1) ++ (0 : BitVec 1) ++ lo).extractLsb' 8 1 = 0 := by
    rw [BitVec.extractLsb'_append_eq_of_le (by decide), BitVec.extractLsb'_append_eq_right]
  rw [hhi, hbit, BitVec.extractLsb'_append_eq_right]

/-! ## Every row but the command frames -/

/-- Settles O1: row by row, the decoder of the row's channel gives the fields back. The reserved rows use their
well-formedness (no row before them stands for the word), DATA.reply its command number. -/
theorem decodeOfEncodeGivesItBack : Obligations.DecodeOfEncodeGivesItBack := by
  unfold Obligations.DecodeOfEncodeGivesItBack
  intro w i hwf hcmd
  cases i with
  | cmdSetReportMode | cmdQuery | cmdSetSleep | cmdSetWorkPeriod => cases hcmd
  | dataMeasurement a b e g id ck =>
    exact (decodeDataFrame_dataFrame dataCmdNo a b e g id ck).trans (if_pos rfl)
  | dataReply n a b e g id ck =>
    exact (decodeDataFrame_dataFrame n a b e g id ck).trans (if_neg (bne_iff_ne.mp hwf))
  | buildSetReportMode dir p => exact congrArg Except.ok (decodeRequest_encodeRequest 0 0 dir p (by decide))
  | buildQuery dir p => exact congrArg Except.ok (decodeRequest_encodeRequest 0 1 dir p (by decide))
  | buildSetSleep dir p => exact congrArg Except.ok (decodeRequest_encodeRequest 0 2 dir p (by decide))
  | buildSetWorkPeriod dir p => exact congrArg Except.ok (decodeRequest_encodeRequest 0 3 dir p (by decide))
  | xchgSetReportMode dir p => exact congrArg Except.ok (decodeRequest_encodeRequest 3 0 dir p (by decide))
  | xchgQuery dir p => exact congrArg Except.ok (decodeRequest_encodeRequest 3 1 dir p (by decide))
  | xchgSetSleep dir p => exact congrArg Except.ok (decodeRequest_encodeRequest 3 2 dir p (by decide))
  | xchgSetWorkPeriod dir p => exact congrArg Except.ok (decodeRequest_encodeRequest 3 3 dir p (by decide))
  | parse hi lo => exact congrArg Except.ok (decodeRequest_legalWord 1 hi lo (by decide))
  | read hi lo => exact congrArg Except.ok (decodeRequest_legalWord 2 hi lo (by decide))
  | reservedOp rest => exact congrArg Except.ok (decodeRequest_op4to7 rest)
  | reservedBit8 hi lo =>
    exact congrArg Except.ok (decodeRequest_bit8 hi lo (Bool.not_eq_eq_eq_not.mp hwf))
  | reservedBit9 hi b lo =>
    obtain ⟨htop, hbit⟩ := Bool.and_eq_true_iff.mp hwf
    obtain rfl : b = 0 := eq_of_beq hbit
    exact congrArg Except.ok (decodeRequest_bit9 hi lo (Bool.not_eq_eq_eq_not.mp htop))
  | cfgw reg value => simp only [encode, decode, decodeConfig, if_true, decodeReg_encodeReg]
  | cfgr reg => simp only [encode, decode, decodeConfig, Bool.false_eq_true, if_false, decodeReg_encodeReg]

end Sys2Proof.Machine

/-! SUPPORT. What an operation and a step can do, once for all the invariants: the block's own events, the outcomes of a
request or access the idle block accepts, and the step as one or the other or a reset. -/

namespace Sys2Proof.Machine

open Sys2Proof.Statements

/-! ## The block's own events (R173 to R178, R202) -/

/-- What the block's own step, or a frame row run as an operation, can make of a state. -/
inductive BlockEvent (s : State) : State → Prop
  /-- No step is enabled, or the transport accepts no more (log entries 5 and 6). -/
  | waits : BlockEvent s s
  /-- The write step (R202). -/
  | pushes (h : s.Writing) (b : Byte) : BlockEvent s (pushed s b)
  /-- `SEEK_HEAD` drops a byte (R173). -/
  | skips (h : s.Seeking) : BlockEvent s s.nextByte.2
  /-- `SEEK_HEAD` takes the head (R173). -/
  | takesHead (h : s.Seeking) :
      BlockEvent s { s.nextByte.2 with buf := s.buf.setIfInBounds 0 headByte, cnt := 1, st := .readBody }
  /-- `READ_BODY` stores a byte (R174). -/
  | stores (h : s.ReadingBody) (hnw : ¬ s.Writing) (b : Byte) :
      BlockEvent s
        { s.nextByte.2 with
          buf := s.buf.setIfInBounds s.cnt b, cnt := s.cnt + 1,
          st := if s.cnt + 1 = 10 then .validate else .readBody }
  /-- The scan meets a `Timeout` (R177, R204). -/
  | timesOut (h : s.Seeking ∨ s.ReadingBody) (hnw : ¬ s.Writing) :
      BlockEvent s (cycleEnded s.nextByte.2 (.error (timeoutStatus s.op)))
  /-- `VALIDATE` finds the candidate good (R175). -/
  | delivers (h : s.Validating) (a : Byte) (f : Vector Byte 10) (v1 v2 : Half) :
      BlockEvent s (cycleEnded { s with acc := a } (.ok (.reading f v1 v2)))
  /-- `VALIDATE` fails with an attempt left (R176). -/
  | resyncs (h : s.Validating) (hleft : s.limit.reached s.rsCnt = false) (a : Byte) (body : List Byte)
      (hbody : body.length = 9) : BlockEvent s (resynchronized { s with acc := a } body)
  /-- `VALIDATE` fails with no attempt left (R176). -/
  | givesUp (h : s.Validating) (hreached : s.limit.reached s.rsCnt = true) (a : Byte) :
      BlockEvent s (cycleEnded { s with acc := a } (.error .desyncExceeded))

section
variable (s : State)

/-- The write step pushes or waits (R202, R296). -/
theorem State.writeStep_event (f : Vector Byte 19) : BlockEvent s (s.writeStep f) := by
  by_cases hw : s.Writing
  · by_cases hroom : s.txRoom = some 0
    · rw [s.writeStep_stuck f hroom]; exact .waits
    · rw [s.writeStep_push f hw hroom]; exact .pushes hw _
  · rw [s.writeStep_disabled f hw]; exact .waits

/-- The `SEEK_HEAD` step (R173). -/
theorem State.seekHeadStep_event : BlockEvent s s.seekHeadStep := by
  by_cases h : s.Seeking
  · have hnw : ¬ s.Writing := fun ⟨_, hop, hlt⟩ => absurd (h.2.2 hop) hlt.ne
    rcases s.seekHeadStep_cases h with ⟨_, hstep⟩ | ⟨_, _, _, hstep⟩ | ⟨_, hstep⟩
    · rw [hstep, s.timeoutExit_nextByte h.1]; exact .timesOut (.inl h) hnw
    · rw [hstep]; exact .skips h
    · rw [hstep, s.nextByte_buf]; exact .takesHead h
  · rw [State.seekHeadStep, if_neg h]; exact .waits

/-- The `READ_BODY` step (R174). -/
theorem State.readBodyStep_event (hnw : ¬ s.Writing) : BlockEvent s s.readBodyStep := by
  by_cases h : s.ReadingBody
  · rcases s.readBodyStep_cases h with ⟨_, hstep⟩ | ⟨b, _, hstep⟩
    · rw [hstep, s.timeoutExit_nextByte h.1]; exact .timesOut (.inr h) hnw
    · rw [hstep, s.nextByte_buf, s.nextByte_cnt]; exact .stores h hnw b
  · rw [State.readBodyStep, if_neg h]; exact .waits

/-- Where VALIDATE is not enabled nothing happens (R175, log entry 6). -/
theorem State.validateStep_disabled (f : Vector Byte 10) (h : ¬ s.Validating) : s.validateStep f = s := if_neg h

/-- The `VALIDATE` step (R175, R176). -/
theorem State.validateStep_event (f : Vector Byte 10) : BlockEvent s (s.validateStep f) := by
  by_cases h : s.Validating
  · rcases s.validateStep_cases f h with ⟨v1, v2, _, _, hstep⟩ | ⟨_, hstep⟩
    · rw [hstep]; exact .delivers h _ f v1 v2
    · rw [hstep]
      cases hlim : s.limit.reached s.rsCnt with
      | false =>
        rw [(s.latchSum (dataRange f.toList)).resync_of_not_reached f hlim]
        exact .resyncs h hlim _ _ rfl
      | true =>
        rw [(s.latchSum (dataRange f.toList)).resync_of_reached f h.1 hlim]
        exact .givesUp h hlim _
  · rw [s.validateStep_disabled f h]; exact .waits

/-- The block's own next event as one function of the state (R179): the write step first (log entry 17), then the step
of the scanner's state, each of which does nothing where it is not enabled. -/
def State.ownStep : State :=
  if s.Writing then s.writeStep s.cf
  else match s.st with
    | .seekHead => s.seekHeadStep
    | .readBody => s.readBodyStep
    | .validate => s.validateStep s.buf

/-- The own step in the write phase. -/
theorem State.ownStep_of_writing (h : s.Writing) : s.ownStep = s.writeStep s.cf := if_pos h

/-- The own step in `SEEK_HEAD`. -/
theorem State.ownStep_of_seekHead (hnw : ¬ s.Writing) (h : s.st = .seekHead) : s.ownStep = s.seekHeadStep := by
  rw [State.ownStep, if_neg hnw, h]

/-- The own step in `READ_BODY`. -/
theorem State.ownStep_of_readBody (hnw : ¬ s.Writing) (h : s.st = .readBody) : s.ownStep = s.readBodyStep := by
  rw [State.ownStep, if_neg hnw, h]

/-- The own step in `VALIDATE`. -/
theorem State.ownStep_of_validate (hnw : ¬ s.Writing) (h : s.st = .validate) : s.ownStep = s.validateStep s.buf := by
  rw [State.ownStep, if_neg hnw, h]

/-- Everything the block does by itself. -/
theorem State.ownStep_event : BlockEvent s s.ownStep := by
  by_cases hw : s.Writing
  · rw [s.ownStep_of_writing hw]; exact s.writeStep_event _
  · cases hst : s.st with
    | seekHead => rw [s.ownStep_of_seekHead hw hst]; exact s.seekHeadStep_event
    | readBody => rw [s.ownStep_of_readBody hw hst]; exact s.readBodyStep_event hw
    | validate => rw [s.ownStep_of_validate hw hst]; exact s.validateStep_event _

end

/-- Bytes that decode as a command frame, run as an operation, are written as they stand (R102, R202). -/
theorem exec_of_decodeCommandFrame {s : State} {f : Vector Byte 19} {i : Instr}
    (h : decodeCommandFrame s.wire f.toList = .ok i) : exec i s = .next (s.writeStep f) := by
  obtain ⟨k, d, m, id, ck, rfl, hkind⟩ := commandFrame_of_decode h
  exact exec_of_decodeKind hkind

/-- Whether or not a row of the table matches what stands in `cf` or `buf`, the step is the block's own (R179). -/
theorem step_of_fetchOwn {s u : State} (h : s.fetch = u.fetchOwn) : step s = .next u.ownStep := by
  rw [step, h]
  rcases u.fetchOwn_cases with ⟨hw, ⟨i, hrow, hown⟩ | hown⟩ | ⟨hnw, hst, hown⟩ | ⟨hnw, hst, hown⟩ |
    ⟨hnw, ⟨_, hst⟩, ⟨i, hrow, hown⟩ | hown⟩ | ⟨hnw, hidle, hown⟩
  · rw [hown, u.ownStep_of_writing hw]; exact exec_of_decodeCommandFrame hrow
  · rw [hown, u.ownStep_of_writing hw]
  · rw [hown, u.ownStep_of_seekHead hnw hst]
  · rw [hown, u.ownStep_of_readBody hnw hst]
  · rw [hown, u.ownStep_of_validate hnw hst]; exact exec_of_decodeDataFrame hrow u
  · rw [hown, u.ownStep_of_validate hnw hst]
  · have hown' : u.ownStep = u := by
      cases hst : u.st with
      | seekHead => rw [u.ownStep_of_seekHead hnw hst, State.seekHeadStep, if_neg (by simp [hidle])]
      | readBody => rw [u.ownStep_of_readBody hnw hst, State.readBodyStep, if_neg (by simp [hidle])]
      | validate => rw [u.ownStep_of_validate hnw hst, u.validateStep_disabled _ (by simp [hidle])]
    rw [hown, hown']

/-! ## The operations, by their place in the table (R102) -/

/-- A command frame row is the write step of the frame it encodes (R202). -/
theorem exec_of_isCommandFrame {i : Instr} (h : isCommandFrame i = true) (s : State) :
    ∃ f, exec i s = .next (s.writeStep f) := by
  cases i with
  | cmdSetReportMode | cmdQuery | cmdSetSleep | cmdSetWorkPeriod => exact ⟨_, rfl⟩
  | _ => cases h

/-- A data frame row is the `VALIDATE` step of the frame it encodes (R175). -/
theorem exec_of_isDataFrame {i : Instr} (h : isDataFrame i = true) (s : State) :
    ∃ f, exec i s = .next (s.validateStep f) := by
  cases i with
  | dataMeasurement | dataReply => exact ⟨_, rfl⟩
  | _ => cases h

/-- The four BUILD rows are one service, at their kind (R130). -/
theorem exec_buildOf (kind : Kind) (dir : Direction) (p : Byte) (s : State) :
    exec (buildOf kind dir p) s = .next (s.whenIdle fun s => s.serveBuild kind dir p) := by
  cases kind <;> rfl

/-- What the idle block can make of an operation the host presents. -/
inductive Accepted (i : Instr) (s : State) : State → Prop
  /-- Answered at once (R241); the accumulator may have moved (R122). -/
  | answered (a : Byte) (r : Response) (h : r.status ∈ statusesAtAcceptance i) :
      Accepted i s { s with acc := a, rsp := s.rsp ++ [r] }
  /-- A READ or an exchange begins (R170, R201). -/
  | begun (a : Byte) (f : Vector Byte 19) (o : CycleOp) (l : Limit) (n : Byte) (h : o = .xchg → l = .atMost 0) :
      Accepted i s
        { s with
          acc := a, cf := f, busy := true, op := o, txi := 0, limit := l, expect := n,
          st := .seekHead, cnt := 0, pend := [], rsCnt := 0 }
  /-- A configuration register is written (R222). -/
  | configWritten (reg : ConfigReg) (v : Word) (h : i = .cfgw reg v) : Accepted i s (s.writeConfig reg v)
  /-- A configuration register is read (R223). -/
  | configRead (w : Word) : Accepted i s (s.returnConfig w)

/-- An error answered by the idle block. -/
theorem Accepted.failRequest {i : Instr} {s : State} {e : ErrorKind} (a : Byte) (hidle : s.busy = false)
    (h : (Response.error e).status ∈ statusesAtAcceptance i) :
    Accepted i s (({ s with acc := a } : State).failRequest e) := by
  rw [({ s with acc := a } : State).failRequest_of_idle e hidle]; exact .answered a _ h

section
variable (s : State) (hidle : s.busy = false) (dir : Direction) (p : Byte)
include hidle

/-- BUILD answers `OK`, or `InvalidParameter` where its kind has an illegal parameter (R130, R135). -/
theorem serveBuild_accepted (kind : Kind) : Accepted (buildOf kind dir p) s (s.serveBuild kind dir p) := by
  rcases s.serveBuild_cases kind dir p with ⟨f, _, hserve⟩ | ⟨e, he, hserve⟩
  · rw [hserve]
    exact .answered _ (.ok (.commandFrame f)) (by cases kind <;> exact List.mem_cons_self)
  · rw [hserve]
    obtain ⟨rfl, hkind⟩ := (invalidParameterExactlyWhenOutOfRange _ _ _ _ _ _).mp he
    refine .failRequest s.acc hidle ?_
    cases kind with
    | query => simp at hkind
    | _ => exact List.mem_cons_of_mem _ List.mem_cons_self

/-- XCHG begins its cycle, or answers `InvalidParameter` where its kind has an illegal parameter (R201, R135). -/
theorem acceptExchange_accepted (kind : Kind) :
    Accepted (exchangeOf kind dir p) s (s.acceptExchange kind dir p) := by
  rcases s.acceptExchange_cases kind dir p with ⟨f, _, haccept⟩ | ⟨e, he, haccept⟩
  · rw [haccept]; exact .begun _ f .xchg (.atMost 0) _ fun _ => rfl
  · rw [haccept]
    obtain ⟨rfl, hkind⟩ := (invalidParameterExactlyWhenOutOfRange _ _ _ _ _ _).mp he
    refine .failRequest s.acc hidle ?_
    cases kind with
    | query => simp at hkind
    | _ => exact List.mem_cons_self

omit hidle in
/-- The two errors of `Parse` (R151). -/
theorem status_of_parse_error {f : List Byte} {e : ErrorKind} (h : parse f = .error e) :
    (Response.error e).status ∈ ([0, 2, 3] : List (BitVec 3)) := by
  unfold parse at h
  split_ifs at h
  all_goals cases h; decide

/-- PARSE answers `OK` or one of the two errors of `Parse` (R150, R151). -/
theorem serveParse_accepted (hi : BitVec 3) (lo : Byte) : Accepted (.parse hi lo) s s.serveParse := by
  obtain ⟨a, ⟨v1, v2, _, hserve⟩ | ⟨e, he, hserve⟩⟩ := s.serveParse_cases
  · rw [hserve]; exact .answered a (.ok (.values v1 v2)) List.mem_cons_self
  · rw [hserve]; exact .failRequest a hidle (status_of_parse_error he)

/-- A reserved request is answered `InvalidParameter` (R96). -/
theorem reserved_accepted {i : Instr} (h : statusesAtAcceptance i = [4]) :
    Accepted i s (s.failRequest .invalidParameter) :=
  .failRequest s.acc hidle (h ▸ List.mem_cons_self)

end

/-- A presented operation waits while the block is busy (R291) and is accepted when it is idle. -/
theorem exec_of_isPresented {i : Instr} (h : isPresented i = true) :
    ∃ k : State → State, ∀ s, exec i s = .next (s.whenIdle k) ∧ (s.busy = false → Accepted i s (k s)) := by
  cases i with
  | cmdSetReportMode | cmdQuery | cmdSetSleep | cmdSetWorkPeriod | dataMeasurement | dataReply => cases h
  | buildSetReportMode dir p => exact ⟨_, fun s => ⟨rfl, fun hs => serveBuild_accepted s hs dir p .setReportMode⟩⟩
  | buildQuery dir p => exact ⟨_, fun s => ⟨rfl, fun hs => serveBuild_accepted s hs dir p .query⟩⟩
  | buildSetSleep dir p => exact ⟨_, fun s => ⟨rfl, fun hs => serveBuild_accepted s hs dir p .setSleep⟩⟩
  | buildSetWorkPeriod dir p => exact ⟨_, fun s => ⟨rfl, fun hs => serveBuild_accepted s hs dir p .setWorkPeriod⟩⟩
  | xchgSetReportMode dir p => exact ⟨_, fun s => ⟨rfl, fun hs => acceptExchange_accepted s hs dir p .setReportMode⟩⟩
  | xchgQuery dir p => exact ⟨_, fun s => ⟨rfl, fun hs => acceptExchange_accepted s hs dir p .query⟩⟩
  | xchgSetSleep dir p => exact ⟨_, fun s => ⟨rfl, fun hs => acceptExchange_accepted s hs dir p .setSleep⟩⟩
  | xchgSetWorkPeriod dir p => exact ⟨_, fun s => ⟨rfl, fun hs => acceptExchange_accepted s hs dir p .setWorkPeriod⟩⟩
  | parse hi lo => exact ⟨_, fun s => ⟨rfl, fun hs => serveParse_accepted s hs hi lo⟩⟩
  | read hi lo => exact ⟨_, fun s => ⟨rfl, fun _ => .begun s.acc s.cf .read _ _ nofun⟩⟩
  | reservedOp rest => exact ⟨_, fun s => ⟨rfl, fun hs => reserved_accepted s hs rfl⟩⟩
  | reservedBit8 hi lo => exact ⟨_, fun s => ⟨rfl, fun hs => reserved_accepted s hs rfl⟩⟩
  | reservedBit9 hi b lo => exact ⟨_, fun s => ⟨rfl, fun hs => reserved_accepted s hs rfl⟩⟩
  | cfgw reg v => exact ⟨_, fun s => ⟨rfl, fun _ => .configWritten reg v rfl⟩⟩
  | cfgr reg => exact ⟨_, fun s => ⟨rfl, fun _ => .configRead _⟩⟩

/-- Every operation is a frame on TX, a frame on RX, or presented by the host (R102). -/
theorem instr_place (i : Instr) : isCommandFrame i = true ∨ isDataFrame i = true ∨ isPresented i = true := by
  cases i with
  | cmdSetReportMode | cmdQuery | cmdSetSleep | cmdSetWorkPeriod => exact .inl rfl
  | dataMeasurement | dataReply => exact .inr (.inl rfl)
  | _ => exact .inr (.inr rfl)

/-- What `exec` can answer, in every state. -/
theorem exec_cases {i : Instr} {s t : State} (h : exec i s = .next t) :
    (∃ f, t = s.writeStep f) ∨ (∃ f, t = s.validateStep f) ∨ t = s ∨ (s.busy = false ∧ Accepted i s t) := by
  rcases instr_place i with hi | hi | hi
  · obtain ⟨f, hf⟩ := exec_of_isCommandFrame hi s
    rw [hf] at h; cases h; exact .inl ⟨f, rfl⟩
  · obtain ⟨f, hf⟩ := exec_of_isDataFrame hi s
    rw [hf] at h; cases h; exact .inr (.inl ⟨f, rfl⟩)
  · obtain ⟨k, hk⟩ := exec_of_isPresented hi
    obtain ⟨hexec, haccepted⟩ := hk s
    rw [hexec] at h; cases h
    cases hb : s.busy with
    | true => exact .inr (.inr (.inl (s.whenIdle_busy k hb)))
    | false => exact .inr (.inr (.inr ⟨rfl, (s.whenIdle_idle k hb).symm ▸ haccepted hb⟩))

/-- Every operation has a next state in every state (R252). -/
theorem exec_total (i : Instr) (s : State) : ∃ t, exec i s = .next t := by
  rcases instr_place i with hi | hi | hi
  · exact (exec_of_isCommandFrame hi s).imp' _ fun _ => id
  · exact (exec_of_isDataFrame hi s).imp' _ fun _ => id
  · obtain ⟨k, hk⟩ := exec_of_isPresented hi
    exact ⟨_, (hk s).1⟩

/-! ## The step (R8, R22) -/

/-- The operation of a legal word is one of four sorts (R96). -/
theorem legalOperation_cases (op : Nat) (kind : Kind) (dir : Direction) (unused : BitVec 3) (param : Byte) :
    legalOperation op kind dir unused param = buildOf kind dir param ∨
      legalOperation op kind dir unused param = .parse unused param ∨
      legalOperation op kind dir unused param = .read unused param ∨
      legalOperation op kind dir unused param = exchangeOf kind dir param := by
  unfold legalOperation
  split
  · exact .inl rfl
  · exact .inr (.inl rfl)
  · exact .inr (.inr (.inl rfl))
  · exact .inr (.inr (.inr rfl))

/-- A request word is presented by the host, and is no configuration access (R94). -/
theorem decodeRequest_place (w : Half) :
    isPresented (decodeRequest w) = true ∧ isConfigWrite (decodeRequest w) = false := by
  by_cases h : 4 ≤ w.toNat / 2 ^ 13 ∨ w.toNat / 2 ^ 8 % 4 ≠ 0
  · rcases decodeRequest_of_reserved w h with ⟨_, hrow⟩ | ⟨_, _, hrow⟩ | ⟨_, _, _, hrow⟩
    all_goals rw [hrow]; exact ⟨rfl, rfl⟩
  · rw [decodeRequest_of_legal w (by omega) (by omega)]
    generalize kindOfCode _ = kind
    rcases legalOperation_cases (w.toNat / 2 ^ 13) kind (directionOfCode (w.toNat / 2 ^ 10 % 2))
      (BitVec.ofNat 3 (w.toNat / 2 ^ 10 % 8)) (BitVec.ofNat 8 (w.toNat % 2 ^ 8)) with hrow | hrow | hrow | hrow
    · rw [hrow]; cases kind <;> exact ⟨rfl, rfl⟩
    · rw [hrow]; exact ⟨rfl, rfl⟩
    · rw [hrow]; exact ⟨rfl, rfl⟩
    · rw [hrow]; cases kind <;> exact ⟨rfl, rfl⟩

/-- What a step that answers next has done: the block's own event, a reset, or the acceptance of what the idle block was
presented. -/
inductive StepEvent (s : State) : State → Prop
  /-- The block's own event, with a `hold` of the host used up where there is one (R179, R291). -/
  | own {ms : List HostMove} {t : State} (hms : ms = s.moves ∨ s.moves = .hold :: ms)
      (he : BlockEvent { s with moves := ms } t) : StepEvent s t
  /-- The reset input (R280). -/
  | reset {ms : List HostMove} (hms : s.moves = .reset :: ms) : StepEvent s ({ s with moves := ms } : State).applyReset
  /-- The acceptance of an operation (R24). Only a write access presents a CFGW. -/
  | accepted {i : Instr} {ms : List HostMove} {pf : List Byte} {t : State} (hidle : s.busy = false)
      (hwrite : isConfigWrite i = true → ∃ a d, s.moves = .config true a d :: ms)
      (h : Accepted i { s with moves := ms, pf := pf } t) : StepEvent s t

/-- In the idle block, `exec` of a presented operation accepts it. -/
theorem accepted_of_exec {i : Instr} {s t : State} (hi : isPresented i = true) (hidle : s.busy = false)
    (h : exec i s = .next t) : Accepted i s t := by
  obtain ⟨k, hk⟩ := exec_of_isPresented hi
  obtain ⟨hexec, haccepted⟩ := hk s
  rw [hexec, s.whenIdle_idle k hidle] at h
  cases h; exact haccepted hidle

/-- Everything a step can do. -/
theorem step_event {s t : State} (h : step s = .next t) : StepEvent s t := by
  rcases s.fetch_cases with hf | ⟨ms, hm, hf⟩ | ⟨ms, hm, hf⟩ | ⟨ms, _, hf⟩ | ⟨w, pf, ms, hm, hidle, hf⟩ |
    ⟨wr, a, d, ms, hm, hidle, hf⟩
  · cases (step_of_fetchOwn hf).symm.trans h; exact .own (.inl rfl) s.ownStep_event
  · cases (step_of_fetchOwn hf).symm.trans h; exact .own (.inr hm) (State.ownStep_event _)
  · rw [step, hf] at h; cases h; exact .reset hm
  · rw [step, hf] at h; cases h
  · rw [step, hf] at h
    obtain ⟨hpresented, hread⟩ := decodeRequest_place w
    exact .accepted hidle (fun hw => by rw [hread] at hw; cases hw)
      (accepted_of_exec (s := { s with moves := ms, pf := pf }) hpresented hidle h)
  · rw [step, hf] at h
    cases wr with
    | true =>
      exact .accepted (pf := s.pf) hidle (fun _ => ⟨a, d, hm⟩)
        (accepted_of_exec (i := decodeConfig true a d) (s := { s with moves := ms }) rfl hidle h)
    | false =>
      exact .accepted (pf := s.pf) hidle (fun hw => by cases hw)
        (accepted_of_exec (i := decodeConfig false a d) (s := { s with moves := ms }) rfl hidle h)

/-- Every step has a next state, but where another agent uses the transport (R252, R290). -/
theorem step_total {s : State} (h : ∀ rest, s.moves ≠ .foreign :: rest) : ∃ t, step s = .next t := by
  rcases s.fetch_cases with hf | ⟨_, _, hf⟩ | ⟨_, _, hf⟩ | ⟨rest, hm, _⟩ | ⟨_, _, _, _, _, hf⟩ |
    ⟨_, _, _, _, _, _, hf⟩
  · exact ⟨_, step_of_fetchOwn hf⟩
  · exact ⟨_, step_of_fetchOwn hf⟩
  · exact ⟨_, by rw [step, hf]⟩
  · exact absurd hm (h rest)
  · rw [step, hf]; exact exec_total _ _
  · rw [step, hf]; exact exec_total _ _

end Sys2Proof.Machine

/-! SUPPORT. The invariants of every reachable state (10_state.md section 5) and of a running exchange (44_exchange.md),
kept by each event of the block and by each acceptance. -/

namespace Sys2Proof.Machine

open Sys2Proof.Statements

/-! ## The invariants of R32 -/

/-- No attempts are within every limit. -/
theorem Limit.covers_zero (l : Limit) : l.covers 0 = true := by
  cases l with
  | unbounded => rfl
  | atMost n => exact decide_eq_true n.zero_le

/-- An attempt begun below the limit stays within it (R176). -/
theorem Limit.covers_succ {l : Limit} {n : Nat} (h : l.reached n = false) : l.covers (n + 1) = true := by
  cases l with
  | unbounded => rfl
  | atMost N => exact decide_eq_true (Nat.lt_of_not_le (of_decide_eq_false h))

/-- The idle values of the sequencing state meet the invariants, busy or not: at rest, and where a cycle begins. -/
theorem inv_of_atRest {s : State} (h : s.AtRest) : s.Inv := by
  have hrest := h
  obtain ⟨hst, hcnt, hpend, hrs, htxi⟩ := h
  have hcovers : s.limit.covers s.rsCnt = true := hrs ▸ s.limit.covers_zero
  refine ⟨fun _ => hrest, fun _ => hcnt, ?_, ?_, ⟨?_, ?_⟩, hcovers, fun _ _ => ⟨hst, hcnt, hpend⟩, ?_, ?_⟩
  all_goals simp [hst, hcnt, hpend, htxi]

/-- A cycle that has ended is at rest (R178). -/
theorem atRest_cycleEnded (s : State) (r : Response) : (cycleEnded s r).AtRest := ⟨rfl, rfl, rfl, rfl, rfl⟩

/-- The reset values are at rest (R34). -/
theorem atRest_applyReset (s : State) : s.applyReset.AtRest := ⟨rfl, rfl, rfl, rfl, rfl⟩

/-- `NextByte` as a record: one byte less to replay, and something of the receive side (R172). -/
theorem State.nextByte_eq (s : State) : ∃ r n h,
    s.nextByte.2 = { s with pend := s.pend.tail, rx := r, freePulls := n, handed := h } := by
  obtain ⟨p, r, n, h, hframe⟩ := s.nextByte_frame
  obtain rfl : p = s.pend.tail := by rw [← s.nextByte_pend, hframe]
  exact ⟨r, n, h, hframe⟩

/-- (e) of R32 for a candidate of `c` bytes and a replay queue after `k` attempts: what is replayed fits in the
candidate with room for the tail byte. -/
def QueueFits (c k : Nat) (queue : List Byte) : Prop :=
  queue.length ≤ 9 ∧ (queue ≠ [] → c + queue.length ≤ 9 ∧ 1 ≤ k)

/-- A byte dropped from the queue makes room for one in the candidate. -/
theorem QueueFits.tail {c k : Nat} {queue : List Byte} (h : QueueFits c k queue) : QueueFits (c + 1) k queue.tail := by
  obtain ⟨hlen, hfits⟩ := h
  cases queue with
  | nil => exact ⟨hlen, fun hne => absurd rfl hne⟩
  | cons b rest =>
    obtain ⟨hsum, hk⟩ := hfits (List.cons_ne_nil b rest)
    rw [List.length_cons] at hlen hsum
    exact ⟨Nat.le_of_succ_le hlen, fun _ => ⟨by rw [List.tail_cons]; omega, hk⟩⟩

/-- A shorter candidate leaves more room. -/
theorem QueueFits.of_le {c d k : Nat} {queue : List Byte} (h : QueueFits c k queue) (hle : d ≤ c) :
    QueueFits d k queue :=
  ⟨h.1, fun hne => ⟨by have := (h.2 hne).1; omega, (h.2 hne).2⟩⟩

/-- A whole candidate leaves nothing to replay. -/
theorem QueueFits.eq_nil {k : Nat} {queue : List Byte} (h : QueueFits 10 k queue) : queue = [] := by
  by_contra hne
  have := (h.2 hne).1
  omega

/-- A byte stored past offset 0 leaves the head (R174). -/
theorem head_of_setIfInBounds {buf : Vector Byte 10} {i : Nat} (b : Byte) (hi : 1 ≤ i) (h : buf[0] = headByte) :
    (buf.setIfInBounds i b)[0] = headByte := by
  rw [Vector.getElem_setIfInBounds, if_neg (by omega), h]

/-- What is said of the idle block says nothing of a busy one. -/
theorem of_busy_of_idle {busy : Bool} {P : Prop} (hbusy : busy = true) : busy = false → P := by
  rintro rfl; cases hbusy

/-- Each event of the block keeps the invariants. -/
theorem BlockEvent.inv {s t : State} (he : BlockEvent s t) (h : s.Inv) : t.Inv := by
  have hinv := h
  obtain ⟨-, hseek, hread, hval, hqueue, hcovers, hwrite, hcnt, htxi⟩ := h
  have hfits : QueueFits s.cnt s.rsCnt s.pend := hqueue
  cases he with
  | waits => exact hinv
  | pushes hw b =>
    obtain ⟨hbusy, _, hlt⟩ := hw
    exact ⟨of_busy_of_idle hbusy, hseek, hread, hval, hqueue, hcovers,
      fun hop _ => hwrite hop hlt, hcnt, hlt⟩
  | skips hs =>
    obtain ⟨hbusy, hst, hdone⟩ := hs
    obtain ⟨r, n, hd, hnext⟩ := s.nextByte_eq
    rw [hnext]
    exact ⟨of_busy_of_idle hbusy, hseek, hread,
      fun hv => absurd (hst.symm.trans hv) nofun, hfits.tail.of_le (Nat.le_succ _), hcovers,
      fun hop hlt => absurd (hdone hop) hlt.ne, hcnt, htxi⟩
  | takesHead hs =>
    obtain ⟨hbusy, hst, hdone⟩ := hs
    obtain ⟨r, n, hd, hnext⟩ := s.nextByte_eq
    have hqueue' : QueueFits 1 s.rsCnt s.pend.tail := by have := hfits.tail; rwa [hseek hst] at this
    have hhead : (s.buf.setIfInBounds 0 headByte)[0] = headByte := by
      rw [Vector.getElem_setIfInBounds, if_pos rfl]
    rw [hnext]
    exact ⟨of_busy_of_idle hbusy, nofun, fun _ => ⟨le_rfl, (by decide : 1 ≤ 9), hhead⟩, nofun,
      hqueue', hcovers, fun hop hlt => absurd (hdone hop) hlt.ne, (by decide : 1 ≤ 10), htxi⟩
  | stores hr hnw b =>
    obtain ⟨hbusy, hst⟩ := hr
    obtain ⟨hpos, hle, hhead⟩ := hread hst
    obtain ⟨r, n, hd, hnext⟩ := s.nextByte_eq
    have hhead' := head_of_setIfInBounds b hpos hhead
    rw [hnext]
    by_cases hlast : s.cnt + 1 = 10
    · rw [if_pos hlast]
      exact ⟨of_busy_of_idle hbusy, nofun, nofun,
        fun _ => ⟨hlast, hhead', (hlast ▸ hfits.tail).eq_nil⟩, hfits.tail, hcovers,
        fun hop hlt => absurd ⟨hbusy, hop, hlt⟩ hnw, hlast.le, htxi⟩
    · have hmore : s.cnt + 1 ≤ 9 := by omega
      rw [if_neg hlast]
      exact ⟨of_busy_of_idle hbusy, nofun,
        fun _ => ⟨Nat.succ_pos _, hmore, hhead'⟩, nofun, hfits.tail, hcovers,
        fun hop hlt => absurd ⟨hbusy, hop, hlt⟩ hnw, Nat.le_succ_of_le hmore, htxi⟩
  | timesOut | delivers | givesUp => exact inv_of_atRest (atRest_cycleEnded _ _)
  | resyncs hv hleft a body hbody =>
    obtain ⟨hbusy, hst⟩ := hv
    have hqueue' : QueueFits 0 (s.rsCnt + 1) body := ⟨hbody.le, fun _ => ⟨by omega, Nat.succ_pos _⟩⟩
    exact ⟨of_busy_of_idle hbusy, fun _ => rfl, nofun, nofun, hqueue', Limit.covers_succ hleft,
      fun hop hlt => absurd (hst.symm.trans (hwrite hop hlt).1) nofun, Nat.zero_le _, htxi⟩

/-- Each acceptance keeps the invariants: it answers, writes or reads a register, or begins a cycle from rest. -/
theorem Accepted.inv {i : Instr} {s t : State} (ha : Accepted i s t) (h : s.Inv) : t.Inv := by
  cases ha with
  | answered | configRead => exact h
  | begun => exact inv_of_atRest ⟨rfl, rfl, rfl, rfl, rfl⟩
  | configWritten reg v =>
    obtain ⟨d, m, e, x, hwrite⟩ := s.writeConfig_frame reg v
    rw [hwrite]; exact h

/-- Settles O44: the three sorts of step. The host's moves and PF are no part of the invariants, and a reset comes to
rest. -/
theorem stepKeepsInvariants : Obligations.StepKeepsInvariants := by
  unfold Obligations.StepKeepsInvariants
  intro s t h hstep
  cases step_event hstep with
  | own _ he => exact he.inv h
  | reset => exact inv_of_atRest (atRest_applyReset _)
  | accepted _ _ ha => exact ha.inv h

/-! ## A running exchange (R203) -/

/-- Each event of the block keeps a running exchange a single-frame cycle: with limit 0 no attempt is left to a
candidate that fails. -/
theorem BlockEvent.singleFrame {s t : State} (he : BlockEvent s t) (h : s.SingleFrame) : t.SingleFrame := by
  cases he with
  | waits | pushes => exact h
  | skips | takesHead | stores =>
    obtain ⟨r, n, hd, hnext⟩ := s.nextByte_eq
    rw [hnext]
    intro hbusy hop
    obtain ⟨hlimit, hrs, hpend⟩ := h hbusy hop
    exact ⟨hlimit, hrs, congrArg List.tail hpend⟩
  | timesOut | delivers | givesUp => exact nofun
  | resyncs hv hleft a body hbody =>
    intro hbusy hop
    obtain ⟨hlimit, hrs, -⟩ := h hbusy hop
    rw [hlimit, hrs] at hleft
    cases hleft

/-- An exchange begins as a single-frame cycle (R201). -/
theorem Accepted.singleFrame {i : Instr} {s t : State} (ha : Accepted i s t) (hidle : s.busy = false) :
    t.SingleFrame := by
  cases ha with
  | begun a f o l n hlimit => exact fun _ hop => ⟨hlimit hop, rfl, rfl⟩
  | answered | configRead => exact fun hbusy => absurd (hidle.symm.trans hbusy) nofun
  | configWritten reg v =>
    obtain ⟨d, m, e, x, hwrite⟩ := s.writeConfig_frame reg v
    rw [hwrite]; exact fun hbusy => absurd (hidle.symm.trans hbusy) nofun

/-- Settles O45: a reset leaves no exchange running, an acceptance begins one with limit 0, and the block's events keep
it. -/
theorem stepKeepsExchangeSingleFrame : Obligations.StepKeepsExchangeSingleFrame := by
  unfold Obligations.StepKeepsExchangeSingleFrame
  intro s t h hstep
  cases step_event hstep with
  | own _ he => exact he.singleFrame h
  | reset => exact nofun
  | accepted hidle _ ha => exact ha.singleFrame hidle

end Sys2Proof.Machine

/-! SUPPORT. What each event of the block and each acceptance leaves alone, and what it answers: the registers, the two
streams, the statuses. The statements about every operation and every step follow from that. -/

namespace Sys2Proof.Machine

open Sys2Proof.Statements

/-! ## Frames -/

/-- Nothing was pulled between the two states (R51). -/
abbrev SameReceive (s t : State) : Prop := t.rx = s.rx ∧ t.freePulls = s.freePulls ∧ t.handed = s.handed

/-- Nothing was pushed between the two states (R53). -/
abbrev SameSend (s t : State) : Prop := t.tx = s.tx ∧ t.txRoom = s.txRoom

/-- The configuration registers are as they were (R28). -/
abbrev SameConfiguration (s t : State) : Prop :=
  t.devid = s.devid ∧ t.maxrs = s.maxrs ∧ t.rsen = s.rsen ∧ t.timeout = s.timeout

section
variable {s t : State}

/-- Only the scan's two places can pull (R172). -/
theorem BlockEvent.receive (he : BlockEvent s t) :
    SameReceive s t ∨ ¬ s.Writing ∧ (s.Seeking ∨ s.ReadingBody) := by
  cases he with
  | waits | pushes | delivers | resyncs | givesUp => exact .inl ⟨rfl, rfl, rfl⟩
  | skips h | takesHead h => exact .inr ⟨fun ⟨_, hop, hlt⟩ => absurd (h.2.2 hop) hlt.ne, .inl h⟩
  | stores h hnw => exact .inr ⟨hnw, .inr h⟩
  | timesOut h hnw => exact .inr ⟨hnw, h⟩

/-- Only the write step pushes (R202, R208). -/
theorem BlockEvent.send (he : BlockEvent s t) (hnw : ¬ s.Writing) : SameSend s t := by
  cases he with
  | pushes hw => exact absurd hw hnw
  | waits | delivers | resyncs | givesUp => exact ⟨rfl, rfl⟩
  | skips | takesHead | stores | timesOut => exact ⟨s.nextByte_tx, s.nextByte_txRoom⟩

/-- No event of the block touches the configuration (R28, R225), PF, the CFG output, or what the host presents. -/
theorem BlockEvent.configuration (he : BlockEvent s t) :
    SameConfiguration s t ∧ t.wire = s.wire ∧ t.moves = s.moves ∧ t.pf = s.pf ∧ t.cfgOut = s.cfgOut := by
  cases he with
  | waits | pushes | delivers | resyncs | givesUp => exact ⟨⟨rfl, rfl, rfl, rfl⟩, rfl, rfl, rfl, rfl⟩
  | skips | takesHead | stores | timesOut =>
    exact ⟨⟨s.nextByte_devid, s.nextByte_maxrs, s.nextByte_rsen, s.nextByte_timeout⟩, s.nextByte_wire,
      s.nextByte_moves, s.nextByte_pf, s.nextByte_cfgOut⟩

/-- Every event but waiting is one of a running cycle (R179). -/
theorem BlockEvent.eq_of_idle (he : BlockEvent s t) (hidle : s.busy = false) : t = s := by
  have hcycle : ¬ s.busy = true := Bool.eq_false_iff.mp hidle
  cases he with
  | waits => rfl
  | pushes h | skips h | takesHead h | stores h | delivers h | resyncs h | givesUp h => exact absurd h.1 hcycle
  | timesOut h => exact absurd (h.elim (·.1) (·.1)) hcycle

/-- An acceptance pulls nothing, pushes nothing and leaves the wire constants (R225, R286). -/
theorem Accepted.streams {i : Instr} (ha : Accepted i s t) : SameReceive s t ∧ SameSend s t ∧ t.wire = s.wire := by
  cases ha with
  | answered | begun | configRead => exact ⟨⟨rfl, rfl, rfl⟩, ⟨rfl, rfl⟩, rfl⟩
  | configWritten reg v =>
    obtain ⟨d, m, e, x, hwrite⟩ := s.writeConfig_frame reg v
    rw [hwrite]; exact ⟨⟨rfl, rfl, rfl⟩, ⟨rfl, rfl⟩, rfl⟩

/-- Only CFGW is accepted into a configuration register (R222). -/
theorem Accepted.configuration {i : Instr} (ha : Accepted i s t) (hi : isConfigWrite i = false) :
    SameConfiguration s t := by
  cases ha with
  | answered | begun | configRead => exact ⟨rfl, rfl, rfl, rfl⟩
  | configWritten reg v hrow => rw [hrow] at hi; cases hi

/-- A frame row run as an operation is an event of the block that pulls nothing; a presented operation waits or is
accepted. -/
theorem exec_event {i : Instr} (h : exec i s = .next t) :
    (BlockEvent s t ∧ SameReceive s t) ∨ (s.busy = false ∧ Accepted i s t) := by
  rcases exec_cases h with ⟨f, rfl⟩ | ⟨f, rfl⟩ | rfl | haccepted
  · obtain ⟨l, room, n, hframe⟩ := s.writeStep_frame f
    exact .inl ⟨s.writeStep_event f, by rw [hframe]; exact ⟨rfl, rfl, rfl⟩⟩
  · refine .inl ⟨s.validateStep_event f, ?_⟩
    by_cases hv : s.Validating
    · refine (s.validateStep_event f).receive.resolve_right fun ⟨_, hscan⟩ => ?_
      rcases hscan with ⟨_, hst, _⟩ | ⟨_, hst⟩ <;> exact absurd (hst.symm.trans hv.2) nofun
    · rw [s.validateStep_disabled f hv]; exact ⟨rfl, rfl, rfl⟩
  · exact .inl ⟨.waits, rfl, rfl, rfl⟩
  · exact .inr haccepted

end

/-- Settles O49: neither the block's events, nor a reset, nor an acceptance touches the wire constants. -/
theorem wireConstantsNeverChange : Obligations.WireConstantsNeverChange := by
  unfold Obligations.WireConstantsNeverChange
  intro s t hstep
  cases step_event hstep with
  | own _ he =>
    obtain ⟨_, hwire, _⟩ := he.configuration
    exact hwire
  | reset => rfl
  | accepted _ _ ha => exact ha.streams.2.2

/-- Settles O48: the block's events touch no register, and of the acceptances only that of a CFGW does. -/
theorem blockNeverWritesConfiguration : Obligations.BlockNeverWritesConfiguration := by
  unfold Obligations.BlockNeverWritesConfiguration
  refine ⟨fun i s t hi hexec => ?_, fun s t hreset hwrite hstep => ?_⟩
  · rcases exec_event hexec with ⟨he, _⟩ | ⟨_, ha⟩
    · exact he.configuration.1
    · exact ha.configuration hi
  · cases step_event hstep with
    | own _ he => exact he.configuration.1
    | reset hms => exact absurd hms (hreset _)
    | @accepted i _ _ _ hidle hcfgw ha =>
      refine ha.configuration (Bool.eq_false_iff.mpr fun hi => ?_)
      obtain ⟨a, d, hms⟩ := hcfgw hi
      exact hwrite hidle a d _ hms

/-- Settles O50: `exec` runs no event that pulls, and the idle block's own event is to wait. -/
theorem onlyTheScanPulls : Obligations.OnlyTheScanPulls := by
  unfold Obligations.OnlyTheScanPulls
  refine ⟨fun i s t hexec => ?_, fun s t hidle hstep => ?_⟩
  · rcases exec_event hexec with ⟨_, hreceive⟩ | ⟨_, ha⟩
    · exact hreceive
    · exact ha.streams.1
  · cases step_event hstep with
    | own _ he =>
      rw [he.eq_of_idle hidle]
      exact ⟨rfl, rfl, rfl, rfl, rfl⟩
    | reset => exact ⟨rfl, rfl, rfl, rfl, rfl⟩
    | accepted _ _ ha =>
      obtain ⟨⟨hrx, hfree, hhanded⟩, ⟨htx, hroom⟩, _⟩ := ha.streams
      exact ⟨hrx, hfree, hhanded, htx, hroom⟩

/-- Settles O20: an event in the write phase does not pull, an event outside it does not push, and a busy block accepts
no exchange. -/
theorem writeCompletesBeforeReadBegins : Obligations.WriteCompletesBeforeReadBegins := by
  unfold Obligations.WriteCompletesBeforeReadBegins
  refine ⟨fun s t hstep => ?_, fun kind dir p s hbusy => ?_⟩
  · cases step_event hstep with
    | own _ he => exact ⟨fun hw => he.receive.resolve_right fun ⟨hnw, _⟩ => hnw hw, he.send⟩
    | reset => exact ⟨fun _ => ⟨rfl, rfl, rfl⟩, fun _ => ⟨rfl, rfl⟩⟩
    | accepted _ _ ha => exact ⟨fun _ => ha.streams.1, fun _ => ha.streams.2.1⟩
  · rw [exec_exchangeOf, s.whenIdle_busy _ hbusy]

/-! ## Responses (R179, R241) -/

/-- An event of a running cycle leaves it running and silent, or ends it at rest with one response, whose status is one
its operation can end with (R179, R241). -/
theorem BlockEvent.response {s t : State} (he : BlockEvent s t) (hbusy : s.busy = true) :
    (t.busy = true ∧ t.rsp = s.rsp) ∨
      (t.busy = false ∧ t.AtRest ∧ ∃ r, t.rsp = s.rsp ++ [r] ∧ r.status ∈ statusesInCycle s.op ∧
        (r.status = 5 → s.limit ≠ .unbounded)) := by
  cases he with
  | waits | pushes | resyncs => exact .inl ⟨hbusy, rfl⟩
  | skips | takesHead | stores => exact .inl ⟨s.nextByte_busy.trans hbusy, s.nextByte_rsp⟩
  | timesOut =>
    refine .inr ⟨rfl, atRest_cycleEnded _ _, _, congrArg (· ++ [_]) s.nextByte_rsp, ?_⟩
    cases s.op with
    | read => exact ⟨by decide, fun h => absurd h (by decide)⟩
    | xchg => exact ⟨by decide, fun h => absurd h (by decide)⟩
  | delivers h a f v1 v2 =>
    refine .inr ⟨rfl, atRest_cycleEnded _ _, .ok (.reading f v1 v2), rfl, ?_, nofun⟩
    cases s.op <;> exact List.mem_cons_self
  | givesUp h hreached =>
    refine .inr ⟨rfl, atRest_cycleEnded _ _, .error .desyncExceeded, rfl, ?_, fun _ hunbounded => ?_⟩
    · cases s.op <;> decide
    · rw [hunbounded] at hreached; cases hreached

/-- Settles O46: a busy block accepts nothing, so a step but reset is an event of the running cycle. -/
theorem cycleEndsOnlyByResponse : Obligations.CycleEndsOnlyByResponse := by
  unfold Obligations.CycleEndsOnlyByResponse
  intro s t hbusy hreset hstep
  cases step_event hstep with
  | own _ he =>
    rcases he.response hbusy with hruns | ⟨hidle, hrest, r, hrsp, _⟩
    · exact .inl hruns
    · exact .inr ⟨hidle, hrest, r, hrsp⟩
  | reset hms => exact absurd hms (hreset _)
  | accepted hidle => exact absurd (hidle.symm.trans hbusy) nofun

/-- Where no response was delivered, none can be found. -/
theorem not_responded {s t : State} {r : Response} (hkept : t.rsp = s.rsp) : ¬ t.rsp = s.rsp ++ [r] := by
  rw [hkept, List.self_eq_append_right]; exact List.cons_ne_nil r []

/-- An acceptance that answers does so with a status of its operation (R241). -/
theorem Accepted.status {i : Instr} {s t : State} {r : Response} (ha : Accepted i s t) (hrsp : t.rsp = s.rsp ++ [r]) :
    r.status ∈ statusesAtAcceptance i := by
  cases ha with
  | answered a r' h =>
    obtain rfl : r' = r := List.singleton_inj.mp (List.append_cancel_left hrsp)
    exact h
  | begun | configRead => exact absurd hrsp (not_responded rfl)
  | configWritten reg v =>
    obtain ⟨d, m, e, x, hwrite⟩ := s.writeConfig_frame reg v
    rw [hwrite] at hrsp
    exact absurd hrsp (not_responded rfl)

/-- Settles O47: at acceptance by the outcomes of the operation, in a cycle by the outcomes of its events; a reset
answers nothing. -/
theorem statusesByOperation : Obligations.StatusesByOperation := by
  unfold Obligations.StatusesByOperation
  refine ⟨fun i s t r hidle hexec hrsp => ?_, fun s t r hbusy hstep hrsp => ?_⟩
  · rcases exec_event hexec with ⟨he, _⟩ | ⟨_, ha⟩
    · rw [he.eq_of_idle hidle] at hrsp
      exact absurd hrsp (not_responded rfl)
    · exact ha.status hrsp
  · cases step_event hstep with
    | own _ he =>
      rcases he.response hbusy with ⟨_, hkept⟩ | ⟨_, _, r', hrsp', hstatus⟩
      · exact absurd hrsp (not_responded hkept)
      · obtain rfl : r' = r := List.singleton_inj.mp (List.append_cancel_left (hrsp'.symm.trans hrsp))
        exact hstatus
    | reset => exact absurd hrsp (not_responded rfl)
    | accepted hidle => exact absurd (hidle.symm.trans hbusy) nofun

/-! ## Which operation a step runs (R22) -/

/-- On the block's turn the step is the block's own event (R179, R291). -/
theorem step_of_blockTurn {s : State} (hturn : blockTurn s = true) : step s = .next s.ownStep :=
  step_of_fetchOwn (State.fetch_of_blockTurn hturn)

/-- The idle block takes the access the host presents (R22, R221). -/
theorem step_config_of_idle {s : State} {wr : Bool} {a : BitVec 2} {d : Word} {rest : List HostMove}
    (hidle : s.busy = false) (hmoves : s.moves = .config wr a d :: rest) :
    step s = exec (decodeConfig wr a d) { s with moves := rest } := by
  simp [step, State.fetch, hmoves, hidle]

/-- A `hold` of the host lets the block take its own event (R179). -/
theorem step_hold {s : State} {rest : List HostMove} (hmoves : s.moves = .hold :: rest) :
    step s = .next ({ s with moves := rest } : State).ownStep :=
  step_of_fetchOwn (by simp only [State.fetch, hmoves])

/-- The reset input acts in the step that finds it (R280, R281). -/
theorem step_reset {s : State} {rest : List HostMove} (hmoves : s.moves = .reset :: rest) :
    step s = .next ({ s with moves := rest } : State).applyReset := by
  simp only [step, State.fetch, hmoves]

/-- Another agent on the transport is refused (R290). -/
theorem step_foreign {s : State} {rest : List HostMove} (hmoves : s.moves = .foreign :: rest) :
    step s = .refused .transportShared := by
  simp only [step, State.fetch, hmoves]

/-- Settles O6: the five places in turn. In `cf` and `buf` the row that matches runs the block's own event. -/
theorem stepRunsDecodedInstruction : Obligations.StepRunsDecodedInstruction := by
  unfold Obligations.StepRunsDecodedInstruction
  refine fun s => ⟨fun w pf rest hmoves hidle => ?_, fun wr a d rest hmoves hidle => ?_,
    fun i hturn hw hrow => ?_, fun i hturn hnw hv hrow => ?_, fun rest hmoves hturn => ?_⟩
  · exact step_request_of_idle s w pf rest hidle hmoves
  · exact step_config_of_idle hidle hmoves
  · rw [step_of_writing hturn hw, exec_of_decodeCommandFrame hrow]
  · rw [step_of_validating hturn hnw hv, exec_of_decodeDataFrame hrow]
  · rw [step_hold hmoves, step_of_blockTurn hturn]

/-- Settles O7: `exec` and the step are total, but for the one refusal. -/
theorem noRequestMakesTheBlockFault : Obligations.NoRequestMakesTheBlockFault := by
  unfold Obligations.NoRequestMakesTheBlockFault
  exact ⟨exec_total, fun _ => step_total, fun _ _ => step_foreign⟩

/-- Settles O8: acceptance waits for `busy = 0`, and the block's own event leaves what is presented and the
registers. -/
theorem requestsWaitWhileBusy : Obligations.RequestsWaitWhileBusy := by
  unfold Obligations.RequestsWaitWhileBusy
  refine ⟨fun i s hbusy hi => ?_, fun s hbusy _ hturn => ?_⟩
  · obtain ⟨k, hk⟩ := exec_of_isPresented hi
    rw [(hk s).1, s.whenIdle_busy k hbusy]
  · obtain ⟨hconfiguration, _, hmoves, hpf, hcfg⟩ := s.ownStep_event.configuration
    exact ⟨_, step_of_blockTurn hturn, hmoves, hpf, hcfg, hconfiguration⟩

/-! ## The write phase (R202, R296) -/

/-- Settles O18, by induction on the number of steps: a write step that the transport does not accept changes
nothing. -/
theorem stalledTransportLeavesExchangeStuck : Obligations.StalledTransportLeavesExchangeStuck := by
  unfold Obligations.StalledTransportLeavesExchangeStuck
  intro s n hw hroom hturn
  have hstep : step s = .next s := by rw [step_of_writing hturn hw, s.writeStep_stuck s.cf hroom]
  induction n with
  | zero => rfl
  | succ n ih => rw [core_run_succ n hstep, ih]

/-- Settles O19: the run of the write phase from `txi = 0`. -/
theorem nineteenWriteStepsPushTheCommand : Obligations.NineteenWriteStepsPushTheCommand := by
  unfold Obligations.NineteenWriteStepsPushTheCommand
  exact fun s hbusy hop htxi hturn hroom => run_writes_command hturn hbusy hop htxi hroom

/-- Settles O17: a command frame row is a write step, which is not enabled. -/
theorem commandFramesWaitOutsideWritePhase : Obligations.CommandFramesWaitOutsideWritePhase := by
  unfold Obligations.CommandFramesWaitOutsideWritePhase
  intro i s hi hnw
  obtain ⟨f, hexec⟩ := exec_of_isCommandFrame hi s
  rw [hexec, s.writeStep_disabled f hnw]

/-- Settles O55: a data frame row is a `VALIDATE` step, which is not enabled. -/
theorem dataFramesWaitOutsideValidate : Obligations.DataFramesWaitOutsideValidate := by
  unfold Obligations.DataFramesWaitOutsideValidate
  intro i s hi hnv
  obtain ⟨f, hexec⟩ := exec_of_isDataFrame hi s
  rw [hexec, s.validateStep_disabled f hnv]

/-! ## Reset (R34, R280) -/

/-- Settles O41: the reset state holds the values R34 states. -/
theorem resetValues : Obligations.ResetValues := by
  unfold Obligations.ResetValues
  exact ⟨rfl, rfl, rfl, rfl, rfl, rfl, rfl, rfl, rfl⟩

/-- Settles O42: the reset step gives the block its reset values and leaves the rest. -/
theorem resetInputAbandonsTheRequest : Obligations.ResetInputAbandonsTheRequest := by
  unfold Obligations.ResetInputAbandonsTheRequest
  intro s rest hmoves
  exact ⟨_, step_reset hmoves, rfl, atRest_applyReset _, rfl, rfl, rfl, rfl, rfl, rfl, rfl, rfl, rfl, rfl, rfl⟩

/-- Settles O43: the reset state is at rest, and runs no exchange. -/
theorem resetStateMeetsInvariants : Obligations.ResetStateMeetsInvariants := by
  unfold Obligations.ResetStateMeetsInvariants
  exact ⟨inv_of_atRest ⟨rfl, rfl, rfl, rfl, rfl⟩, nofun⟩

end Sys2Proof.Machine

/-! SUPPORT. Each operation by itself, against the rules of its section: the laws of the checksum, BUILD, PARSE and XCHG
at acceptance, configuration accesses, and the steps of a candidate. -/

namespace Sys2Proof.Machine

open Sys2Proof.Statements

/-! ## The laws of the checksum (R123) -/

/-- The checksum of a concatenation (R123 (b)). -/
theorem checksum_append (a b : List Byte) : checksum (a ++ b) = checksum a + checksum b := by
  induction a with
  | nil => rw [List.nil_append, checksum_nil, BitVec.ofNat_eq_ofNat, BitVec.zero_add]
  | cons x a ih => rw [List.cons_append, checksum_cons, ih, checksum_cons, BitVec.add_assoc]

/-- The checksum does not see the order (R123 (c)). -/
theorem checksum_perm {a b : List Byte} (h : a.Perm b) : checksum a = checksum b := by
  rw [checksum, checksum, (h.map BitVec.toNat).sum_eq]

/-- Zero bytes contribute nothing (R123 (d)). -/
theorem checksum_filter_ne_zero (a : List Byte) : checksum (a.filter (· != 0)) = checksum a := by
  induction a with
  | nil => rfl
  | cons x a ih =>
    by_cases hx : x = 0
    · rw [List.filter_cons_of_neg (by simp [hx]), ih, checksum_cons, hx, BitVec.ofNat_eq_ofNat, BitVec.zero_add]
    · rw [List.filter_cons_of_pos (by simpa using hx), checksum_cons, checksum_cons, ih]

/-- Settles O31: the four laws. -/
theorem checksumLaws : Obligations.ChecksumLaws := by
  unfold Obligations.ChecksumLaws
  refine ⟨rfl, fun a b => ?_, fun a b => checksum_perm, checksum_filter_ne_zero⟩
  rw [checksum_append, BitVec.toNat_add]

/-! ## BUILD and XCHG in the idle block (R130, R201) -/

section
variable {s : State} {kind : Kind} {dir : Direction} {p : Byte}

/-- BUILD with a legal parameter (R130). -/
theorem State.serveBuild_of_ok {f : Vector Byte 19} (h : build s.wire kind dir p s.devid = .ok f) :
    s.serveBuild kind dir p = (s.latchSum (commandRange f)).respond (.ok (.commandFrame f)) := by
  simp only [State.serveBuild, h]

/-- BUILD with an illegal parameter (R130, R135). -/
theorem State.serveBuild_of_error {e : ErrorKind} (h : build s.wire kind dir p s.devid = .error e) :
    s.serveBuild kind dir p = s.failRequest e := by
  simp only [State.serveBuild, h]

/-- XCHG with an illegal parameter (R201, R135). -/
theorem State.acceptExchange_of_error {e : ErrorKind} (h : build s.wire kind dir p s.devid = .error e) :
    s.acceptExchange kind dir p = s.failRequest e := by
  simp only [State.acceptExchange, h]

variable (hidle : s.busy = false)
include hidle

/-- BUILD answers the frame that `Build` returns (R130). -/
theorem exec_buildOf_of_build {k d m : Byte} (h : build s.wire kind dir p s.devid = .ok (wireFrame k d m s.devid)) :
    exec (buildOf kind dir p) s = .next (builtFrame s k d m) := by
  rw [exec_buildOf, s.whenIdle_idle _ hidle, State.serveBuild_of_ok h, s.latchSum_commandRange_wireFrame]
  rfl

/-- BUILD answers the error that `Build` raises (R130). -/
theorem exec_buildOf_of_error {e : ErrorKind} (h : build s.wire kind dir p s.devid = .error e) :
    exec (buildOf kind dir p) s = .next (answeredWith s e) := by
  rw [exec_buildOf, s.whenIdle_idle _ hidle, State.serveBuild_of_error h, s.failRequest_of_idle e hidle]
  rfl

/-- XCHG answers the error that `Build` raises, and begins nothing (R201). -/
theorem exec_exchangeOf_of_error {e : ErrorKind} (h : build s.wire kind dir p s.devid = .error e) :
    exec (exchangeOf kind dir p) s = .next (answeredWith s e) := by
  rw [exec_exchangeOf, s.whenIdle_idle _ hidle, State.acceptExchange_of_error h, s.failRequest_of_idle e hidle]
  rfl

end

/-- Settles O9: BUILD at the equation of SetReportMode, on each side of its bound. -/
theorem buildSetReportModeAnswersFrame : Obligations.BuildSetReportModeAnswersFrame := by
  unfold Obligations.BuildSetReportModeAnswersFrame
  intro dir p s hidle
  have hbuild := build_setReportMode s.wire dir p s.devid
  exact ⟨fun h => exec_buildOf_of_build (kind := .setReportMode) hidle (hbuild.trans (if_neg h.not_gt)),
    fun h => exec_buildOf_of_error (kind := .setReportMode) hidle (hbuild.trans (if_pos h))⟩

/-- Settles O10: BUILD at the equation of Query. -/
theorem buildQueryAnswersFrame : Obligations.BuildQueryAnswersFrame := by
  unfold Obligations.BuildQueryAnswersFrame
  exact fun dir p s hidle => exec_buildOf_of_build (kind := .query) hidle (build_query s.wire dir p s.devid)

/-- Settles O11: BUILD at the equation of SetSleep, on each side of its bound. -/
theorem buildSetSleepAnswersFrame : Obligations.BuildSetSleepAnswersFrame := by
  unfold Obligations.BuildSetSleepAnswersFrame
  intro dir p s hidle
  have hbuild := build_setSleep s.wire dir p s.devid
  exact ⟨fun h => exec_buildOf_of_build (kind := .setSleep) hidle (hbuild.trans (if_neg h.not_gt)),
    fun h => exec_buildOf_of_error (kind := .setSleep) hidle (hbuild.trans (if_pos h))⟩

/-- Settles O12: BUILD at the equation of SetWorkPeriod, on each side of its bound. -/
theorem buildSetWorkPeriodAnswersFrame : Obligations.BuildSetWorkPeriodAnswersFrame := by
  unfold Obligations.BuildSetWorkPeriodAnswersFrame
  intro dir p s hidle
  have hbuild := build_setWorkPeriod s.wire dir p s.devid
  exact ⟨fun h => exec_buildOf_of_build (kind := .setWorkPeriod) hidle (hbuild.trans (if_neg h.not_gt)),
    fun h => exec_buildOf_of_error (kind := .setWorkPeriod) hidle (hbuild.trans (if_pos h))⟩

/-- Settles O15: XCHG at the equation of each kind, on each side of its bound. -/
theorem exchangeAcceptedWithItsFrame : Obligations.ExchangeAcceptedWithItsFrame := by
  unfold Obligations.ExchangeAcceptedWithItsFrame
  intro dir p s hidle
  have hmode := build_setReportMode s.wire dir p s.devid
  have hsleep := build_setSleep s.wire dir p s.devid
  have hperiod := build_setWorkPeriod s.wire dir p s.devid
  exact ⟨fun h => exec_exchangeOf_of_build (kind := .setReportMode) hidle (hmode.trans (if_neg h.not_gt)),
    fun h => exec_exchangeOf_of_error (kind := .setReportMode) hidle (hmode.trans (if_pos h)),
    exec_exchangeOf_of_build (kind := .query) hidle (build_query s.wire dir p s.devid),
    fun h => exec_exchangeOf_of_build (kind := .setSleep) hidle (hsleep.trans (if_neg h.not_gt)),
    fun h => exec_exchangeOf_of_error (kind := .setSleep) hidle (hsleep.trans (if_pos h)),
    fun h => exec_exchangeOf_of_build (kind := .setWorkPeriod) hidle (hperiod.trans (if_neg h.not_gt)),
    fun h => exec_exchangeOf_of_error (kind := .setWorkPeriod) hidle (hperiod.trans (if_pos h))⟩

/-! ## The command frames (R202) -/

/-- The write step pushes the byte at `txi`, read off the frame's list of bytes (R53, R202). -/
theorem State.writeStep_getD {s : State} {f : Vector Byte 19} (hw : s.Writing) (hroom : s.txRoom ≠ some 0) :
    s.writeStep f = pushed s (f.toList.getD s.txi 0) := by
  have hbyte : f.toList.getD s.txi 0 = f[s.txi]'hw.2.2 := by
    rw [List.getD_eq_getElem _ _ (by rw [Vector.length_toList]; exact hw.2.2), Vector.getElem_toList]
  rw [hbyte, s.writeStep_push f hw hroom]; rfl

/-- Five bits with three zeros before them (R102). -/
theorem zeroExtend_eq_append (t : BitVec 5) : t.zeroExtend 8 = (0 : BitVec 3) ++ t :=
  BitVec.setWidth_eq_append (by decide)

/-- Settles O16: each row's frame has the bytes written out (R81), and the write step pushes the one at `txi`. -/
theorem commandFramesPushTheirNextByte : Obligations.CommandFramesPushTheirNextByte := by
  unfold Obligations.CommandFramesPushTheirNextByte
  intro s d m ck t id hw hroom
  have hpush (f : Vector Byte 19) : Host.Outcome.next (s.writeStep f) =
      (.next (pushed s (f.toList.getD s.txi 0)) : Host.Outcome State Fault Refusal) := by
    rw [State.writeStep_getD hw hroom]
  refine ⟨hpush (commandFrame s.wire.reportModeId d m id ck), hpush (commandFrame s.wire.queryId 0 0 id ck),
    hpush (commandFrame s.wire.sleepId d m id ck), ?_⟩
  rw [← zeroExtend_eq_append]
  exact hpush (commandFrame s.wire.workPeriodId d (t.zeroExtend 8) id ck)

/-! ## PARSE (R150 to R153) -/

section
variable {s : State} (x : BitVec 3) (y : Byte) (hidle : s.busy = false)
include hidle

/-- PARSE of another length than ten: no checksum is computed (R151; log entry 12). -/
theorem exec_parse_of_length_ne (hlen : s.pf.length ≠ 10) :
    exec (.parse x y) s = .next (answeredWith s .malformedFrame) := by
  have hserve : s.serveParse = s.failRequest .malformedFrame := by
    simp only [State.serveParse, if_neg hlen, parse_of_length_ne hlen]
  calc exec (.parse x y) s = .next (s.whenIdle State.serveParse) := rfl
    _ = _ := by rw [s.whenIdle_idle _ hidle, hserve, s.failRequest_of_idle _ hidle]; rfl

/-- PARSE of ten bytes that fail: the error of `Parse`, with the sum in the accumulator (R150; log entry 12). -/
theorem exec_parse_of_error {e : ErrorKind} (hlen : s.pf.length = 10) (h : parse s.pf = .error e) :
    exec (.parse x y) s = .next (answeredWith { s with acc := checksum (dataRange s.pf) } e) := by
  have hserve : s.serveParse = ({ s with acc := checksum (dataRange s.pf) } : State).failRequest e := by
    simp only [State.serveParse, if_pos hlen, h, State.latchSum, foldl_accumulate_zero]
  calc exec (.parse x y) s = .next (s.whenIdle State.serveParse) := rfl
    _ = .next (({ s with acc := checksum (dataRange s.pf) } : State).failRequest e) := by
      rw [s.whenIdle_idle _ hidle, hserve]
    _ = _ := congrArg Host.Outcome.next (State.failRequest_of_idle _ e hidle)

/-- PARSE of ten good bytes: the two values, with the sum in the accumulator (R150; log entry 12). -/
theorem exec_parse_of_ok {v1 v2 : Half} (hlen : s.pf.length = 10) (h : parse s.pf = .ok (v1, v2)) :
    exec (.parse x y) s =
      .next { s with acc := checksum (dataRange s.pf), rsp := s.rsp ++ [.ok (.values v1 v2)] } := by
  have hserve : s.serveParse =
      ({ s with acc := checksum (dataRange s.pf) } : State).respond (.ok (.values v1 v2)) := by
    simp only [State.serveParse, if_pos hlen, h, State.latchSum, foldl_accumulate_zero]
  calc exec (.parse x y) s = .next (s.whenIdle State.serveParse) := rfl
    _ = _ := by rw [s.whenIdle_idle _ hidle, hserve]; rfl

end

/-- Settles O23: PARSE over the tests of `Parse` (O53), whose sum is what the accumulator keeps. -/
theorem parseAnswersByLengthChecksumTail : Obligations.ParseAnswersByLengthChecksumTail := by
  unfold Obligations.ParseAnswersByLengthChecksumTail
  refine fun x y s hidle => ⟨exec_parse_of_length_ne x y hidle, fun f0 f1 f2 f3 f4 f5 f6 f7 f8 f9 hpf => ?_⟩
  obtain ⟨hsumBad, htailBad, hgood⟩ :=
    parseTestsLengthThenChecksumThenTail.2 f0 f1 f2 f3 f4 f5 f6 f7 f8 f9
  have hlen : s.pf.length = 10 := by rw [hpf]; rfl
  have hsum : checksum (dataRange s.pf) = f2 + f3 + f4 + f5 + f6 + f7 := by
    rw [hpf]; exact checksum_six f2 f3 f4 f5 f6 f7
  rw [← hpf] at hsumBad htailBad hgood
  intro sum
  refine ⟨fun hne => ?_, fun heq htail => ?_, fun heq htail => ?_⟩
  · rw [exec_parse_of_error x y hidle hlen (hsumBad hne), hsum]
  · rw [exec_parse_of_error x y hidle hlen (htailBad heq htail), hsum]
  · rw [exec_parse_of_ok x y hidle hlen (hgood heq htail), hsum]

/-! ## READ and configuration accesses (R170, R222, R223) -/

/-- Settles O32: the acceptance of READ, let through by the idle block. -/
theorem readAcceptedWithItsLimit : Obligations.ReadAcceptedWithItsLimit := by
  unfold Obligations.ReadAcceptedWithItsLimit
  intro x y s hidle
  exact congrArg Host.Outcome.next (s.whenIdle_idle State.acceptRead hidle)

/-- CFGW waits for the idle block (R222). -/
theorem exec_cfgw (r : ConfigReg) (v : Word) (s : State) :
    exec (.cfgw r v) s = .next (s.whenIdle fun s => s.writeConfig r v) := rfl

/-- CFGR waits for the idle block (R223). -/
theorem exec_cfgr (r : ConfigReg) (s : State) :
    exec (.cfgr r) s = .next (s.whenIdle fun s => s.returnConfig (s.readConfig r)) := rfl

/-- The low half of a word, as the field of its bits and as a truncation (R221). -/
theorem extractLsb'_low (v : Word) : v.extractLsb' 0 16 = v.setWidth 16 := by
  apply BitVec.eq_of_toNat_eq
  rw [BitVec.extractLsb'_toNat, BitVec.toNat_setWidth, Nat.shiftRight_zero]

/-- A half word with sixteen zeros before it (R221). -/
theorem zeroExtend_half (h : Half) : h.zeroExtend 32 = (0 : BitVec 16) ++ h := BitVec.setWidth_eq_append (by decide)

/-- Settles O27: one register a case. -/
theorem configWriteChangesOneRegister : Obligations.ConfigWriteChangesOneRegister := by
  unfold Obligations.ConfigWriteChangesOneRegister
  refine fun v s => ⟨fun hidle => ?_, fun hbusy r => by rw [exec_cfgw, s.whenIdle_busy _ hbusy]⟩
  simp only [exec_cfgw, s.whenIdle_idle _ hidle, State.writeConfig, extractLsb'_low, and_self]

/-- Settles O28: one register a case. -/
theorem configReadReturnsTheRegister : Obligations.ConfigReadReturnsTheRegister := by
  unfold Obligations.ConfigReadReturnsTheRegister
  refine fun s => ⟨fun hidle => ?_, fun hbusy r => by rw [exec_cfgr, s.whenIdle_busy _ hbusy]⟩
  simp only [exec_cfgr, s.whenIdle_idle _ hidle, State.returnConfig, State.readConfig, zeroExtend_half, and_self]

/-- A half register reads back the low half of what was written, zero above (R221). -/
theorem zeroExtend_low (v : Word) : (v.extractLsb' 0 16).zeroExtend 32 = v &&& 0x0000FFFF := by
  apply BitVec.eq_of_toNat_eq
  have hmask : (0x0000FFFF : Word).toNat = 2 ^ 16 - 1 := rfl
  rw [BitVec.toNat_setWidth, BitVec.extractLsb'_toNat, Nat.shiftRight_zero, BitVec.toNat_and, hmask,
    Nat.and_two_pow_sub_one_eq_mod]
  omega

/-- CTRL reads back bit 0 of what was written (R221). -/
theorem bit_eq_and_one (v : Word) : (if v.getLsbD 0 = true then 1 else 0 : Word) = v &&& 0x00000001 := by
  rw [BitVec.ofNat_eq_ofNat, BitVec.and_one_eq_setWidth_ofBool_getLsbD]
  cases v.getLsbD 0 <;> rfl

/-- Settles O29: the register written reads back its implemented bits; of two different registers the write of one is no
part of the read of the other. -/
theorem configReadAfterWrite : Obligations.ConfigReadAfterWrite := by
  unfold Obligations.ConfigReadAfterWrite
  intro r q v s
  constructor
  · cases r with
    | devid => exact zeroExtend_low v
    | maxrs => exact zeroExtend_low v
    | ctrl => exact bit_eq_and_one v
    | timeout => rfl
  · intro hne
    cases r with
    | devid => cases q with
      | devid => exact absurd rfl hne
      | maxrs | ctrl | timeout => rfl
    | maxrs => cases q with
      | maxrs => exact absurd rfl hne
      | devid | ctrl | timeout => rfl
    | ctrl => cases q with
      | ctrl => exact absurd rfl hne
      | devid | maxrs | timeout => rfl
    | timeout => cases q with
      | timeout => exact absurd rfl hne
      | devid | maxrs | ctrl => rfl

/-! ## The next byte of the scan (R172) -/

/-- Settles O33: the replay queue, the script, the free value. -/
theorem nextByteReplaysThenPulls : Obligations.NextByteReplaysThenPulls := by
  unfold Obligations.NextByteReplaysThenPulls
  refine fun s => ⟨fun b rest hpend => ?_, fun a rest hpend hrx => State.nextByte_of_rx hpend hrx,
    fun hpend hrx => ?_⟩
  · simp only [State.nextByte, hpend]
  · simp only [State.nextByte, hpend, State.rxPull, hrx]

/-! ## The steps of a candidate (R174, R175, R176) -/

/-- Settles O35: the two outcomes of the enabled `READ_BODY` step, at the byte `NextByte` answers. -/
theorem readBodyStepStoresTheByte : Obligations.ReadBodyStepStoresTheByte := by
  unfold Obligations.ReadBodyStepStoresTheByte
  intro s u a k hturn hnw hbusy hst hcnt hnext
  obtain ⟨rfl, rfl⟩ : s.nextByte.1 = a ∧ s.nextByte.2 = u := by rw [hnext]; exact ⟨rfl, rfl⟩
  have hset (b : Byte) : s.nextByte.2.buf.setIfInBounds s.cnt b = s.nextByte.2.buf.set k b := by
    ext i hi
    rw [Vector.getElem_setIfInBounds, Vector.getElem_set, hcnt]
  have hbyte (b : Byte) (ha : s.nextByte.1 = .byte b) : step s = .next
      { s.nextByte.2 with
        buf := s.nextByte.2.buf.set k b, cnt := k.val + 1, st := if k.val + 1 = 10 then .validate else .readBody } := by
    rw [step_reading_byte hturn hnw ⟨hbusy, hst⟩ ha, hset, hcnt]
  refine ⟨fun ha => ?_, fun b ha hlt => ?_, fun b ha hlast => ?_⟩
  · exact step_reading_timeout hturn hnw ⟨hbusy, hst⟩ ha
  · rw [hbyte b ha, if_neg (by omega)]
  · have hten : k.val + 1 = 10 := congrArg (· + 1) hlast
    rw [hbyte b ha, if_pos hten, hten]

/-- The sum over offsets 2 to 7 of a candidate (R91). -/
def bodySum (f : Vector Byte 10) : Byte := f[2] + f[3] + f[4] + f[5] + f[6] + f[7]

/-- Offset by offset, it is the checksum of the range (R91, R120). -/
theorem checksum_dataRange (f : Vector Byte 10) : checksum (dataRange f.toList) = bodySum f := by
  rw [toList_eq_ten]; exact checksum_six _ _ _ _ _ _

/-- `Parse` accepts a candidate exactly when its checksum and its tail are right (R151). -/
theorem parse_toList_ok {f : Vector Byte 10} (hsum : f[8] = bodySum f) (htail : f[9] = 0xAB) :
    parse f.toList = .ok (little f[2] f[3], little f[4] f[5]) := by
  rw [toList_eq_ten]
  exact (parseTestsLengthThenChecksumThenTail.2 f[0] f[1] f[2] f[3] f[4] f[5] f[6] f[7] f[8] f[9]).2.2 hsum.symm htail

/-- A candidate that `Parse` accepts has the right checksum and tail (R151). -/
theorem of_parse_toList_ok {f : Vector Byte 10} {v : Half × Half} (h : parse f.toList = .ok v) :
    f[8] = bodySum f ∧ f[9] = 0xAB := by
  obtain ⟨hsumBad, htailBad, _⟩ :=
    parseTestsLengthThenChecksumThenTail.2 f[0] f[1] f[2] f[3] f[4] f[5] f[6] f[7] f[8] f[9]
  rw [toList_eq_ten] at h
  by_cases hsum : bodySum f = f[8]
  · by_cases htail : f[9] = 0xAB
    · exact ⟨hsum.symm, htail⟩
    · cases (htailBad hsum htail).symm.trans h
  · cases (hsumBad hsum).symm.trans h

/-- `Resync` in a running cycle, its bound read off the limit (R176). -/
theorem State.resync_eq_candidateFailed (s : State) (f : Vector Byte 10) (hbusy : s.busy = true) :
    s.resync f = candidateFailed s [f[1], f[2], f[3], f[4], f[5], f[6], f[7], f[8], f[9]] := by
  obtain ⟨hunbounded, hleft, hreached⟩ := resyncStopsAtTheLimit s f hbusy
  unfold candidateFailed
  split
  · exact hunbounded ‹_›
  · split_ifs with hle
    · exact hreached _ ‹_› hle
    · exact hleft _ ‹_› (Nat.lt_of_not_le hle)

section
variable {s : State} {f : Vector Byte 10} (hv : s.Validating)
include hv

/-- A candidate with the right checksum, tail and command number ends the cycle (R175). -/
theorem State.validateStep_of_good (hsum : f[8] = bodySum f) (htail : f[9] = 0xAB) (hno : f[1] = s.expect) :
    s.validateStep f =
      cycleEnded { s with acc := bodySum f } (.ok (.reading f (little f[2] f[3]) (little f[4] f[5]))) := by
  have hparse := parse_toList_ok hsum htail
  rcases s.validateStep_cases f hv with ⟨v1, v2, hvalues, _, hstep⟩ | ⟨hbad | hbad, _⟩
  · cases hparse.symm.trans hvalues
    rw [hstep, State.latchSum, foldl_accumulate_zero, checksum_dataRange]; rfl
  · exact absurd hparse (hbad _)
  · exact absurd hno hbad

/-- Any other candidate fails, and the bound of R176 decides (R175). -/
theorem State.validateStep_of_bad (hbad : ¬ (f[8] = bodySum f ∧ f[9] = 0xAB ∧ f[1] = s.expect)) :
    s.validateStep f =
      candidateFailed { s with acc := bodySum f } [f[1], f[2], f[3], f[4], f[5], f[6], f[7], f[8], f[9]] := by
  rcases s.validateStep_cases f hv with ⟨v1, v2, hvalues, hno, _⟩ | ⟨_, hstep⟩
  · obtain ⟨hsum, htail⟩ := of_parse_toList_ok hvalues
    exact absurd ⟨hsum, htail, hno⟩ hbad
  · rw [hstep, State.latchSum, foldl_accumulate_zero, checksum_dataRange]
    exact State.resync_eq_candidateFailed _ f hv.1

end

section
variable {s : State} (body : List Byte)

/-- Without a bound every failure starts an attempt (R176). -/
theorem candidateFailed_of_unbounded (h : s.limit = .unbounded) : candidateFailed s body = resynchronized s body := by
  simp only [candidateFailed, h]

/-- Below the bound a failure starts an attempt (R176). -/
theorem candidateFailed_of_lt {N : Nat} (h : s.limit = .atMost N) (hlt : s.rsCnt < N) :
    candidateFailed s body = resynchronized s body := by
  simp only [candidateFailed, h, if_neg hlt.not_ge]

/-- From the bound on a failure ends the cycle (R176). -/
theorem candidateFailed_of_le {N : Nat} (h : s.limit = .atMost N) (hle : N ≤ s.rsCnt) :
    candidateFailed s body = cycleEnded s (.error .desyncExceeded) := by
  simp only [candidateFailed, h, if_pos hle]

end

/-- Settles O36: the step is the `VALIDATE` step of `buf`, good or bad, with the bound of R176 read off the limit. -/
theorem validateStepDecidesTheCandidate : Obligations.ValidateStepDecidesTheCandidate := by
  unfold Obligations.ValidateStepDecidesTheCandidate
  intro s f0 f1 f2 f3 f4 f5 f6 f7 f8 f9 hturn hnw hv hbuf
  obtain ⟨rfl, rfl, rfl, rfl, rfl, rfl, rfl, rfl, rfl⟩ : s.buf[1] = f1 ∧ s.buf[2] = f2 ∧ s.buf[3] = f3 ∧ s.buf[4] = f4 ∧
      s.buf[5] = f5 ∧ s.buf[6] = f6 ∧ s.buf[7] = f7 ∧ s.buf[8] = f8 ∧ s.buf[9] = f9 := by
    simp only [hbuf]; exact ⟨rfl, rfl, rfl, rfl, rfl, rfl, rfl, rfl, rfl⟩
  intro sum body
  have hstep := step_of_validating hturn hnw hv
  refine ⟨fun hsum htail hno => ?_, fun hbad => ?_⟩
  · rw [hstep, State.validateStep_of_good hv hsum htail hno]; rfl
  · have hfailed : step s = .next (candidateFailed { s with acc := sum } body) := by
      rw [hstep, State.validateStep_of_bad hv hbad]; rfl
    rw [hfailed]
    exact ⟨fun hlim => congrArg _ (candidateFailed_of_unbounded body hlim),
      fun N hlim hlt => congrArg _ (candidateFailed_of_lt body hlim hlt),
      fun N hlim hle => congrArg _ (candidateFailed_of_le body hlim hle)⟩

/-- Settles O37: both rows validate a data frame, whose fields are the bytes the tests look at. -/
theorem goodDataFramesEndTheCycle : Obligations.GoodDataFramesEndTheCycle := by
  unfold Obligations.GoodDataFramesEndTheCycle
  intro s n a b e g ck id hv hck
  have hgood (m : Byte) (hno : s.expect = m) : s.validateStep (dataFrame m a b e g id ck) =
      cycleEnded { s with acc := ck } (.ok (.reading (replyFrame m a b e g id ck) (little a b) (little e g))) := by
    rw [State.validateStep_of_good (f := dataFrame m a b e g id ck) hv hck rfl hno.symm, hck]; rfl
  exact ⟨fun hno => congrArg Host.Outcome.next (hgood 0xC0 hno), fun hno => congrArg Host.Outcome.next (hgood n hno)⟩

/-- Settles O38: both rows validate a data frame, whose fields are the bytes the tests look at. -/
theorem badDataFramesAreResynchronized : Obligations.BadDataFramesAreResynchronized := by
  unfold Obligations.BadDataFramesAreResynchronized
  intro s n a b e g ck id hv
  have hbad (m : Byte) (h : ck ≠ replySum a b e g id ∨ s.expect ≠ m) :
      s.validateStep (dataFrame m a b e g id ck) = candidateFailed { s with acc := replySum a b e g id }
        [m, a, b, e, g, id.extractLsb' 8 8, id.extractLsb' 0 8, ck, 0xAB] := by
    refine State.validateStep_of_bad (f := dataFrame m a b e g id ck) hv fun ⟨hsum, _, hno⟩ => ?_
    exact h.elim (fun hne => hne hsum) (fun hne => hne hno.symm)
  exact ⟨fun h => congrArg Host.Outcome.next (hbad 0xC0 h), fun h => congrArg Host.Outcome.next (hbad n h)⟩

end Sys2Proof.Machine

/-! SUPPORT. Decoding and encoding, the other way round (30_encoding.md section 7): the command frames come back where
their identifiers differ, and what decodes to an operation is that operation's encoding. -/

namespace Sys2Proof.Machine

open Sys2Proof.Statements

/-! ## Command frames (R81, R102) -/

/-- The bytes of a command frame are read as its fields, and its KIND_ID names the row (R102). -/
theorem decodeCommandFrame_commandFrame (w : WireConstants) (k d m : Byte) (id : Half) (ck : Byte) :
    decodeCommandFrame w (commandFrame k d m id ck).toList = decodeKind w k d m id ck := by
  rw [commandFrame_toList]
  have hpad : ([0, 0, 0, 0, 0, 0, 0, 0, 0, 0] : List Byte) = zeros 10 := rfl
  simp only [decodeCommandFrame, hpad, ne_eq, not_true, if_false, idOf_hi8_lo8]

/-- The five bits of a work time come back from its byte (R136). -/
theorem extractLsb'_zeroExtend (t : BitVec 5) : (t.zeroExtend 8).extractLsb' 0 5 = t :=
  (BitVec.extractLsb'_setWidth_of_le (by decide)).trans BitVec.extractLsb'_eq_self

/-- A work time fits its five bits (R136). -/
theorem toNat_zeroExtend_lt (t : BitVec 5) : (t.zeroExtend 8).toNat < 32 := by
  have ht : t.toNat < 32 := t.isLt
  rw [BitVec.toNat_setWidth]; omega

/-- Settles O2: each row is the first in the decoder's order whose identifier is its own, as no two are the same. -/
theorem decodeOfEncodeGivesCommandFrameBack : Obligations.DecodeOfEncodeGivesCommandFrameBack := by
  unfold Obligations.DecodeOfEncodeGivesCommandFrameBack
  intro w i hdistinct _ hcmd
  simp only [WireConstants.KindIdsDistinct, List.nodup_cons, List.mem_cons, List.not_mem_nil, or_false, not_or]
    at hdistinct
  obtain ⟨⟨hmq, hms, hmp⟩, ⟨hqs, hqp⟩, hsp, _⟩ := hdistinct
  cases i with
  | cmdSetReportMode d m id ck =>
    exact (decodeCommandFrame_commandFrame w w.reportModeId d m id ck).trans (if_pos rfl)
  | cmdQuery id ck =>
    refine (decodeCommandFrame_commandFrame w w.queryId 0 0 id ck).trans ?_
    rw [decodeKind, if_neg (Ne.symm hmq), if_pos ⟨rfl, rfl, rfl⟩]
  | cmdSetSleep d m id ck =>
    refine (decodeCommandFrame_commandFrame w w.sleepId d m id ck).trans ?_
    rw [decodeKind, if_neg (Ne.symm hms), if_neg fun h => hqs h.1.symm, if_pos rfl]
  | cmdSetWorkPeriod d t id ck =>
    refine (decodeCommandFrame_commandFrame w w.workPeriodId d (t.zeroExtend 8) id ck).trans ?_
    rw [decodeKind, if_neg (Ne.symm hmp), if_neg fun h => hqp h.1.symm, if_neg (Ne.symm hsp),
      if_pos ⟨rfl, toNat_zeroExtend_lt t⟩, extractLsb'_zeroExtend]
  | _ => cases hcmd

/-- The row that the fields of a command frame name is encoded as that frame (R102). -/
theorem encode_of_decodeKind {w : WireConstants} {k d m ck : Byte} {id : Half} {i : Instr}
    (h : decodeKind w k d m id ck = .ok i) : encode w i = .commandFrame (commandFrame k d m id ck).toList := by
  unfold decodeKind at h
  split_ifs at h with hmode hquery hsleep hperiod
  all_goals cases h
  · rw [hmode]; rfl
  · obtain ⟨rfl, rfl, rfl⟩ := hquery; rfl
  · rw [hsleep]; rfl
  · obtain ⟨rfl, hm⟩ := hperiod
    rw [encode, zeroExtend_extractLsb'_of_lt hm]

/-- A list of `n` bytes as a frame. -/
theorem exists_toList_eq {n : Nat} {f : List Byte} (h : f.length = n) : ∃ v : Vector Byte n, v.toList = f :=
  ⟨⟨f.toArray, h⟩, rfl⟩

/-- Only nineteen bytes decode as a command frame (R80). -/
theorem length_of_decodeCommandFrame {w : WireConstants} {f : List Byte} {i : Instr}
    (h : decodeCommandFrame w f = .ok i) : f.length = 19 := by
  unfold decodeCommandFrame at h
  split at h
  · rfl
  · cases h

/-- Bytes that decode as a command frame are its encoding (R102). -/
theorem encode_of_decodeCommandFrame {w : WireConstants} {f : List Byte} {i : Instr}
    (h : decodeCommandFrame w f = .ok i) : encode w i = .commandFrame f := by
  obtain ⟨v, rfl⟩ := exists_toList_eq (length_of_decodeCommandFrame h)
  obtain ⟨k, d, m, id, ck, rfl, hkind⟩ := commandFrame_of_decode h
  exact encode_of_decodeKind hkind

/-! ## Data frames (R88, R102) -/

/-- Only ten bytes decode as a data frame (R80). -/
theorem length_of_decodeDataFrame {f : List Byte} {i : Instr} (h : decodeDataFrame f = .ok i) : f.length = 10 := by
  unfold decodeDataFrame at h
  split at h
  · rfl
  · cases h

/-- Bytes that decode as a data frame are its encoding (R102). -/
theorem encode_of_decodeDataFrame (w : WireConstants) {f : List Byte} {i : Instr} (h : decodeDataFrame f = .ok i) :
    encode w i = .dataFrame f := by
  obtain ⟨v, rfl⟩ := exists_toList_eq (length_of_decodeDataFrame h)
  rw [toList_eq_ten] at h
  unfold decodeDataFrame at h
  dsimp only at h
  split_ifs at h with hhead htail hno
  all_goals
    cases h
    conv_rhs => rw [← dataFrame_of_bytes v (not_not.mp hhead) (not_not.mp htail)]
  · rw [hno]; rfl
  · rfl

/-! ## Request words (R95, R96) -/

/-- The code of a kind (R97). -/
def codeOfKind : Kind → BitVec 2
  | .setReportMode => 0
  | .query => 1
  | .setSleep => 2
  | .setWorkPeriod => 3

/-- The BUILD rows in one (R95). -/
theorem encode_buildOf (w : WireConstants) (kind : Kind) (dir : Direction) (p : Byte) :
    encode w (buildOf kind dir p) = .request (encodeRequest 0 (codeOfKind kind) dir p) := by
  cases kind <;> rfl

/-- The XCHG rows in one (R95). -/
theorem encode_exchangeOf (w : WireConstants) (kind : Kind) (dir : Direction) (p : Byte) :
    encode w (exchangeOf kind dir p) = .request (encodeRequest 3 (codeOfKind kind) dir p) := by
  cases kind <;> rfl

/-- Bits 12:10 come back from the kind and the direction they code (R97). -/
theorem codes_of_hi (hi : BitVec 3) :
    codeOfKind (kindOfCode (hi.toNat / 2)) ++ encodeDir (directionOfCode (hi.toNat % 2)) = hi := by
  revert hi; decide

/-- A legal word is the encoding of the operation of its `op` code with the fields of bits 12:10 and 7:0 (R95, R102). -/
theorem encode_legalOperation (w : WireConstants) (op hi : BitVec 3) (lo : Byte) (hop : op.toNat < 4) :
    encode w (legalOperation op.toNat (kindOfCode (hi.toNat / 2)) (directionOfCode (hi.toNat % 2)) hi lo) =
      .request (op ++ hi ++ (0 : BitVec 2) ++ lo) := by
  obtain rfl | rfl | rfl | rfl : op = 0 ∨ op = 1 ∨ op = 2 ∨ op = 3 := by revert op; decide
  · refine (encode_buildOf w _ _ lo).trans ?_
    rw [encodeRequest_eq_legalWord, codes_of_hi]
  · rfl
  · rfl
  · refine (encode_exchangeOf w _ _ lo).trans ?_
    rw [encodeRequest_eq_legalWord, codes_of_hi]

/-- A word put together from four of its fields (R95). -/
theorem fields_append (r : Half) :
    r.extractLsb' 13 3 ++ r.extractLsb' 10 3 ++ r.extractLsb' 8 2 ++ r.extractLsb' 0 8 = r := by
  rw [BitVec.extractLsb'_append_extractLsb'_eq_extractLsb' (by rfl),
    BitVec.extractLsb'_append_extractLsb'_eq_extractLsb' (by rfl),
    BitVec.extractLsb'_append_extractLsb'_eq_extractLsb' (by rfl), BitVec.extractLsb'_eq_self]

/-- A clear bit as a field of one bit. -/
theorem extractLsb'_of_clear {r : Half} {i : Nat} (h : r.getLsbD i = false) : r.extractLsb' i 1 = 0 := by
  rw [getLsbD_request] at h
  apply BitVec.eq_of_toNat_eq
  rw [toNat_requestField]; exact Nat.mod_two_ne_one.mp (of_decide_eq_false h)

/-- A set bit as a field of one bit. -/
theorem extractLsb'_of_set {r : Half} {i : Nat} (h : r.getLsbD i = true) : r.extractLsb' i 1 = 1 := by
  rw [getLsbD_request] at h
  apply BitVec.eq_of_toNat_eq
  rw [toNat_requestField]; exact of_decide_eq_true h

/-- A request word is the encoding of the operation it decodes to, reserved or legal (R102). -/
theorem encode_decodeRequest (w : WireConstants) (r : Half) : encode w (decodeRequest r) = .request r := by
  cases h15 : r.getLsbD 15 with
  | true =>
    rw [decodeRequest_of_bit15 h15, encode, ← extractLsb'_of_set h15,
      BitVec.extractLsb'_append_extractLsb'_eq_extractLsb' (by rfl), BitVec.extractLsb'_eq_self]
  | false =>
    cases h8 : r.getLsbD 8 with
    | true =>
      rw [decodeRequest_of_bit8 h15 h8, encode, ← extractLsb'_of_set h8,
        BitVec.extractLsb'_append_extractLsb'_eq_extractLsb' (by rfl),
        BitVec.extractLsb'_append_extractLsb'_eq_extractLsb' (by rfl), BitVec.extractLsb'_eq_self]
    | false =>
      cases h9 : r.getLsbD 9 with
      | true =>
        rw [decodeRequest_of_bit9 h15 h8 h9, encode, ← extractLsb'_of_set h9,
          BitVec.extractLsb'_append_extractLsb'_eq_extractLsb' (by rfl),
          BitVec.extractLsb'_append_extractLsb'_eq_extractLsb' (by rfl),
          BitVec.extractLsb'_append_extractLsb'_eq_extractLsb' (by rfl), BitVec.extractLsb'_eq_self]
      | false =>
        have hop : (r.extractLsb' 13 3).toNat < 4 := by
          have := (getLsbD_15_eq_true_iff r).not.mp (Bool.eq_false_iff.mp h15)
          rw [toNat_requestField]; omega
        have hclear : r.extractLsb' 8 2 = 0 := by
          have := (getLsbD_8_or_9_iff r).not.mp
            (not_or.mpr ⟨Bool.eq_false_iff.mp h8, Bool.eq_false_iff.mp h9⟩)
          apply BitVec.eq_of_toNat_eq
          rw [toNat_requestField]; exact not_not.mp this
        have hword := fields_append r
        rw [hclear] at hword
        rw [← hword, decodeRequest_legalWord _ _ _ hop, encode_legalOperation w _ _ _ hop]

/-- The register at an address has that address (R221). -/
theorem encodeReg_decodeReg (a : BitVec 2) : encodeReg (decodeReg a) = a := by revert a; decide

/-- Settles O3: channel by channel, what the decoder took apart the encoder puts together again. -/
theorem encodeOfDecodeGivesBitsBack : Obligations.EncodeOfDecodeGivesBitsBack := by
  unfold Obligations.EncodeOfDecodeGivesBitsBack
  intro w c i h hread
  cases c with
  | commandFrame f => exact encode_of_decodeCommandFrame h
  | dataFrame f => exact encode_of_decodeDataFrame w h
  | request r => cases h; exact encode_decodeRequest w r
  | config wr a d =>
    cases h
    cases wr with
    | true => exact congrArg (Code.config true · d) (encodeReg_decodeReg a)
    | false => rw [hread a d rfl]; exact congrArg (Code.config false · 0) (encodeReg_decodeReg a)

/-! ## Which words are reserved (R96) -/

/-- The three reserved rows (R96). -/
def isReserved : Instr → Bool
  | .reservedOp _ => true
  | .reservedBit8 _ _ => true
  | .reservedBit9 _ _ _ => true
  | _ => false

/-- The reserved rows, written out. -/
theorem isReserved_iff (i : Instr) : isReserved i = true ↔
    (∃ x, i = .reservedOp x) ∨ (∃ x y, i = .reservedBit8 x y) ∨ (∃ x y z, i = .reservedBit9 x y z) := by
  cases i <;> simp [isReserved]

/-- A legal operation is well formed, and none of the reserved rows (R96). -/
theorem legalOperation_wellFormed (w : WireConstants) (op : Nat) (kind : Kind) (dir : Direction) (unused : BitVec 3)
    (p : Byte) : wellFormed w (legalOperation op kind dir unused p) = true ∧
      isReserved (legalOperation op kind dir unused p) = false := by
  rcases legalOperation_cases op kind dir unused p with hrow | hrow | hrow | hrow
  · rw [hrow]; cases kind <;> exact ⟨rfl, rfl⟩
  · rw [hrow]; exact ⟨rfl, rfl⟩
  · rw [hrow]; exact ⟨rfl, rfl⟩
  · rw [hrow]; cases kind <;> exact ⟨rfl, rfl⟩

/-- A bit of a field is a bit of the word. -/
theorem getLsbD_requestField (r : Half) {i n j : Nat} (hj : j < n) :
    (r.extractLsb' i n).getLsbD j = r.getLsbD (i + j) := by
  rw [BitVec.getLsbD_extractLsb', decide_eq_true hj, Bool.true_and]

/-- The operation of a word is well formed, and reserved exactly when one of the three bits is set; the tests of the rows
before its own fail (R96, R102). -/
theorem decodeRequest_wellFormed (w : WireConstants) (r : Half) :
    wellFormed w (decodeRequest r) = true ∧
      isReserved (decodeRequest r) = (r.getLsbD 15 || r.getLsbD 9 || r.getLsbD 8) := by
  cases h15 : r.getLsbD 15 with
  | true => rw [decodeRequest_of_bit15 h15]; exact ⟨rfl, rfl⟩
  | false =>
    cases h8 : r.getLsbD 8 with
    | true =>
      have htop : (r.extractLsb' 9 7).getLsbD 6 = false := (getLsbD_requestField r (by decide)).trans h15
      rw [decodeRequest_of_bit8 h15 h8, wellFormed, htop, Bool.or_true]; exact ⟨rfl, rfl⟩
    | false =>
      cases h9 : r.getLsbD 9 with
      | true =>
        have htop : (r.extractLsb' 10 6).getLsbD 5 = false := (getLsbD_requestField r (by decide)).trans h15
        rw [decodeRequest_of_bit9 h15 h8 h9, wellFormed, htop, extractLsb'_of_clear h8]; exact ⟨rfl, rfl⟩
      | false =>
        have hop := (getLsbD_15_eq_true_iff r).not.mp (Bool.eq_false_iff.mp h15)
        have h98 := (getLsbD_8_or_9_iff r).not.mp
          (not_or.mpr ⟨Bool.eq_false_iff.mp h8, Bool.eq_false_iff.mp h9⟩)
        rw [decodeRequest_of_legal r (by omega) (by omega)]
        exact legalOperation_wellFormed w _ _ _ _ _

/-- Settles O4: the three bits of the test, as the statement writes them. -/
theorem everyRequestWordIsAnOperation : Obligations.EveryRequestWordIsAnOperation := by
  unfold Obligations.EveryRequestWordIsAnOperation
  intro w r
  obtain ⟨hwf, hreserved⟩ := decodeRequest_wellFormed w r
  refine ⟨hwf, ?_⟩
  rw [← isReserved_iff, hreserved, Bool.or_eq_true, Bool.or_eq_true, or_assoc]

/-- Settles O5: the decoder run on each word. -/
theorem tableWordsDecode : Obligations.TableWordsDecode := by
  unfold Obligations.TableWordsDecode
  exact ⟨rfl, rfl, rfl, rfl, rfl, rfl, rfl, rfl, rfl, rfl, rfl⟩

end Sys2Proof.Machine

/-! SUPPORT. What the block remembers (10_state.md section 5, R31): two blocks that differ only in what a request never
reads before it writes it, and the step that keeps them so. -/

namespace Sys2Proof.Machine

open Sys2Proof.Statements

/-! ## Blocks with the same visible state -/

/-- The state with other contents of the three buffers a cycle writes before it reads them: `buf`, `cf`, `acc`. -/
def State.withBuffers (s : State) (b : Vector Byte 10) (c : Vector Byte 19) (a : Byte) : State :=
  { s with buf := b, cf := c, acc := a }

/-- The state with other latched parameters of a cycle too (R25). -/
def State.withHidden (s : State) (o : CycleOp) (l : Limit) (e : Byte) (b : Vector Byte 10) (c : Vector Byte 19)
    (a : Byte) : State :=
  { s with op := o, limit := l, expect := e, buf := b, cf := c, acc := a }

/-- The cycle that `s` runs never reads where `b` and `c` differ from its own `buf` and `cf`: it has filled `buf` up to
`cnt`, as a whole in `VALIDATE`, and only an exchange writes a command. -/
structure Agree (s : State) (b : Vector Byte 10) (c : Vector Byte 19) : Prop where
  filled : ∀ (i : Nat) (hi : i < 10), i < s.cnt → b[i] = s.buf[i]
  whole : s.st = .validate → s.cnt = 10
  command : s.op = .xchg → c = s.cf

/-- Two blocks no run can tell apart. At rest the parameters of the next cycle and the buffers are free; in a cycle the
accumulator is, and what the cycle does not read of the other two. -/
inductive Twin (s : State) : State → Prop
  | resting (hidle : s.busy = false) (hrest : s.AtRest) (o : CycleOp) (l : Limit) (e : Byte) (b : Vector Byte 10)
      (c : Vector Byte 19) (a : Byte) : Twin s (s.withHidden o l e b c a)
  | running (hbusy : s.busy = true) {b : Vector Byte 10} {c : Vector Byte 19} (a : Byte) (h : Agree s b c) :
      Twin s (s.withBuffers b c a)

/-- A twin looks the same. -/
theorem Twin.sameOutside {s u : State} (h : Twin s u) : s.SameOutside u := by
  cases h with
  | resting | running => exact ⟨rfl, rfl, rfl, rfl, rfl, rfl, rfl, rfl, rfl, rfl, rfl, rfl, rfl, rfl, rfl⟩

/-- Two resting blocks that look the same are twins: what else they hold is free. -/
theorem twin_of_sameOutside {s u : State} (hidle : s.busy = false) (hs : s.AtRest) (hu : u.AtRest)
    (h : s.SameOutside u) : Twin s u := by
  have heq : u = s.withHidden u.op u.limit u.expect u.buf u.cf u.acc := by
    cases s
    cases u
    simp only [State.AtRest, State.SameOutside] at hs hu h
    simp only [State.withHidden, hs, hu, h]
  rw [heq]
  exact .resting hidle hs _ _ _ _ _ _

/-- A cycle that ends leaves twins, whatever was in the buffers (R178). -/
theorem twin_cycleEnded (s : State) (b : Vector Byte 10) (c : Vector Byte 19) (a : Byte) (r : Response) :
    Twin (cycleEnded s r) (cycleEnded (s.withBuffers b c a) r) :=
  .resting rfl (atRest_cycleEnded s r) s.op s.limit s.expect b c a

/-! ## The block's own events on twins -/

section
variable {s : State} {b : Vector Byte 10} {c : Vector Byte 19} {a : Byte}

/-- `NextByte` does not look at the buffers (R172). -/
theorem State.nextByte_withBuffers :
    (s.withBuffers b c a).nextByte = (s.nextByte.1, s.nextByte.2.withBuffers b c a) := by
  rcases s.nextByte_cases with ⟨x, rest, hpend, hnext⟩ | ⟨hpend, hnext⟩
  · rw [hnext]; simp only [State.nextByte, State.withBuffers, hpend]
  · rw [hnext]
    rcases s.rxPull_cases with ⟨x, rest, hrx, hpull⟩ | ⟨hrx, hpull⟩
    · rw [hpull]; simp only [State.nextByte, State.withBuffers, hpend, State.rxPull, hrx]
    · rw [hpull]; simp only [State.nextByte, State.withBuffers, hpend, State.rxPull, hrx]

/-- A pull leaves what the cycle reads. -/
theorem Agree.nextByte (h : Agree s b c) : Agree s.nextByte.2 b c where
  filled := by rw [s.nextByte_cnt, s.nextByte_buf]; exact h.filled
  whole := by rw [s.nextByte_cnt, s.nextByte_st]; exact h.whole
  command := by rw [s.nextByte_op, s.nextByte_cf]; exact h.command

/-- A whole candidate is the same in both. -/
theorem Agree.buf_eq (h : Agree s b c) (hst : s.st = .validate) : b = s.buf := by
  refine Vector.ext fun i hi => h.filled i hi ?_
  rw [h.whole hst]; exact hi

/-- The write step pushes the same command (R202). -/
theorem twin_writeStep (h : Agree s b c) (hw : s.Writing) :
    Twin (s.writeStep s.cf) ((s.withBuffers b c a).writeStep c) := by
  obtain rfl : c = s.cf := h.command hw.2.1
  have hw' : (s.withBuffers b s.cf a).Writing := hw
  by_cases hroom : s.txRoom = some 0
  · rw [s.writeStep_stuck _ hroom, (s.withBuffers b s.cf a).writeStep_stuck _ hroom]
    exact .running hw.1 a h
  · rw [s.writeStep_push _ hw hroom, (s.withBuffers b s.cf a).writeStep_push _ hw' hroom]
    exact .running (s := pushed s _) hw.1 a ⟨h.filled, h.whole, h.command⟩

/-- A `Timeout` ends both cycles alike (R177, R204). -/
theorem twin_timeoutExit (hbusy : s.busy = true) : Twin s.timeoutExit (s.withBuffers b c a).timeoutExit := by
  rw [s.timeoutExit_of_busy hbusy, (s.withBuffers b c a).timeoutExit_of_busy hbusy]
  exact twin_cycleEnded s b c a _

/-- A byte stored at the same place leaves the candidates alike one place further. -/
theorem getElem_setIfInBounds_of_filled {n : Nat} {b b' : Vector Byte 10} (x : Byte)
    (h : ∀ (i : Nat) (hi : i < 10), i < n → b[i] = b'[i]) (i : Nat) (hi : i < 10) (hlt : i < n + 1) :
    (b.setIfInBounds n x)[i] = (b'.setIfInBounds n x)[i] := by
  rw [Vector.getElem_setIfInBounds, Vector.getElem_setIfInBounds]
  by_cases hni : n = i
  · rw [if_pos hni, if_pos hni]
  · rw [if_neg hni, if_neg hni]; exact h i hi (by omega)

/-- The `SEEK_HEAD` step takes the same byte, and a head begins both candidates (R173). -/
theorem twin_seekHeadStep (h : Agree s b c) (hbusy : s.busy = true) :
    Twin s.seekHeadStep (s.withBuffers b c a).seekHeadStep := by
  by_cases hseek : s.Seeking
  · have hseek' : (s.withBuffers b c a).Seeking := hseek
    have hnext := s.nextByte_busy.trans hbusy
    have hagree := h.nextByte
    rw [State.seekHeadStep, State.seekHeadStep, if_pos hseek, if_pos hseek', State.nextByte_withBuffers]
    generalize s.nextByte = answer at hnext hagree ⊢
    obtain ⟨_ | _, u⟩ := answer
    case byte x =>
      by_cases hx : x = headByte
      · simp only [hx, if_true]
        exact .running (s := { u with buf := u.buf.setIfInBounds 0 headByte, cnt := 1, st := .readBody }) hnext a
          ⟨getElem_setIfInBounds_of_filled headByte nofun, nofun, hagree.command⟩
      · simp only [hx, if_false]
        exact .running hnext a hagree
    case timeout => exact twin_timeoutExit hnext
  · have hseek' : ¬ (s.withBuffers b c a).Seeking := hseek
    rw [State.seekHeadStep, State.seekHeadStep, if_neg hseek, if_neg hseek']
    exact .running hbusy a h

/-- The `READ_BODY` step stores the same byte at the same place (R174). -/
theorem twin_readBodyStep (h : Agree s b c) (hbusy : s.busy = true) (hst : s.st = .readBody) :
    Twin s.readBodyStep (s.withBuffers b c a).readBodyStep := by
  have hread : s.ReadingBody := ⟨hbusy, hst⟩
  have hread' : (s.withBuffers b c a).ReadingBody := hread
  have hnext := s.nextByte_busy.trans hbusy
  have hagree := h.nextByte
  rw [State.readBodyStep, State.readBodyStep, if_pos hread, if_pos hread', State.nextByte_withBuffers]
  generalize s.nextByte = answer at hnext hagree ⊢
  obtain ⟨_ | _, u⟩ := answer
  case byte x =>
    refine .running
      (s := { u with
        buf := u.buf.setIfInBounds u.cnt x, cnt := u.cnt + 1,
        st := if u.cnt + 1 = 10 then .validate else .readBody }) hnext a
      ⟨getElem_setIfInBounds_of_filled x hagree.filled, fun hvalidate => ?_, hagree.command⟩
    by_contra hne
    have hne' : ¬ u.cnt + 1 = 10 := hne
    simp only [if_neg hne'] at hvalidate
    cases hvalidate
  case timeout => exact twin_timeoutExit hnext

/-- A failed candidate starts an attempt in both cycles, or ends both (R176). -/
theorem twin_candidateFailed (h : Agree s b c) (hbusy : s.busy = true) (body : List Byte) :
    Twin (candidateFailed s body) (candidateFailed (s.withBuffers b c a) body) := by
  have hagain : Twin (resynchronized s body) (resynchronized (s.withBuffers b c a) body) :=
    .running (s := resynchronized s body) hbusy a ⟨nofun, nofun, h.command⟩
  cases hlim : s.limit with
  | unbounded =>
    rw [candidateFailed_of_unbounded body hlim, candidateFailed_of_unbounded (s := s.withBuffers b c a) body hlim]
    exact hagain
  | atMost N =>
    by_cases hle : N ≤ s.rsCnt
    · rw [candidateFailed_of_le body hlim hle, candidateFailed_of_le (s := s.withBuffers b c a) body hlim hle]
      exact twin_cycleEnded s b c a _
    · have hlt : s.rsCnt < N := Nat.lt_of_not_le hle
      rw [candidateFailed_of_lt body hlim hlt, candidateFailed_of_lt (s := s.withBuffers b c a) body hlim hlt]
      exact hagain

/-- The `VALIDATE` step decides the same candidate, with the same sum in the accumulator (R175). -/
theorem twin_validateStep (h : Agree s b c) (hv : s.Validating) (f : Vector Byte 10) :
    Twin (s.validateStep f) ((s.withBuffers b c a).validateStep f) := by
  have hv' : (s.withBuffers b c a).Validating := hv
  have hagree : Agree { s with acc := bodySum f } b c := ⟨h.filled, h.whole, h.command⟩
  by_cases hgood : f[8] = bodySum f ∧ f[9] = 0xAB ∧ f[1] = s.expect
  · obtain ⟨hsum, htail, hno⟩ := hgood
    rw [State.validateStep_of_good hv hsum htail hno, State.validateStep_of_good hv' hsum htail hno]
    exact twin_cycleEnded { s with acc := bodySum f } b c (bodySum f) _
  · rw [State.validateStep_of_bad hv hgood, State.validateStep_of_bad hv' hgood]
    exact twin_candidateFailed (s := { s with acc := bodySum f }) (a := bodySum f) hagree hv.1 _

/-- The block's own event keeps twins twins. -/
theorem Twin.ownStep {u : State} (h : Twin s u) : Twin s.ownStep u.ownStep := by
  cases h with
  | resting hidle hrest o l e b c a =>
    rw [s.ownStep_event.eq_of_idle hidle, (s.withHidden o l e b c a).ownStep_event.eq_of_idle hidle]
    exact .resting hidle hrest o l e b c a
  | @running hbusy b c a h =>
    by_cases hw : s.Writing
    · rw [s.ownStep_of_writing hw, (s.withBuffers b c a).ownStep_of_writing hw]
      exact twin_writeStep h hw
    · cases hst : s.st with
      | seekHead =>
        rw [s.ownStep_of_seekHead hw hst, (s.withBuffers b c a).ownStep_of_seekHead hw hst]
        exact twin_seekHeadStep h hbusy
      | readBody =>
        rw [s.ownStep_of_readBody hw hst, (s.withBuffers b c a).ownStep_of_readBody hw hst]
        exact twin_readBodyStep h hbusy hst
      | validate =>
        obtain rfl := h.buf_eq hst
        rw [s.ownStep_of_validate hw hst, (s.withBuffers s.buf c a).ownStep_of_validate hw hst]
        exact twin_validateStep h ⟨hbusy, hst⟩ s.buf

end

/-! ## Acceptance by twins (R24) -/

/-- Twins at rest differ in the parameters of the next cycle and the buffers. -/
theorem Twin.of_idle {s u : State} (h : Twin s u) (hidle : s.busy = false) :
    s.AtRest ∧ ∃ o l e b c a, u = s.withHidden o l e b c a := by
  cases h with
  | resting _ hrest o l e b c a => exact ⟨hrest, o, l, e, b, c, a, rfl⟩
  | running hbusy => exact absurd (hidle.symm.trans hbusy) nofun

section
variable {s u : State} (h : Twin s u) (hidle : s.busy = false)
include h hidle

/-- An error is answered alike (R250). -/
theorem Twin.failRequest (x : ErrorKind) : Twin (s.failRequest x) (u.failRequest x) := by
  obtain ⟨hrest, o, l, e, b, c, a, rfl⟩ := h.of_idle hidle
  rw [s.failRequest_of_idle x hidle, (s.withHidden o l e b c a).failRequest_of_idle x hidle]
  exact .resting (s := s.respond (.error x)) hidle hrest o l e b c a

/-- BUILD answers alike: it reads the wire constants and DEVID (R130). -/
theorem Twin.serveBuild (kind : Kind) (dir : Direction) (p : Byte) :
    Twin (s.serveBuild kind dir p) (u.serveBuild kind dir p) := by
  have hfail := h.failRequest hidle
  obtain ⟨hrest, o, l, e, b, c, a, rfl⟩ := h.of_idle hidle
  cases hbuild : build s.wire kind dir p s.devid with
  | error x =>
    rw [State.serveBuild_of_error hbuild, State.serveBuild_of_error (s := s.withHidden o l e b c a) hbuild]
    exact hfail x
  | ok f =>
    rw [State.serveBuild_of_ok hbuild, State.serveBuild_of_ok (s := s.withHidden o l e b c a) hbuild]
    exact .resting (s := (s.latchSum (commandRange f)).respond _) hidle hrest o l e b c _

/-- XCHG begins the same cycle: it writes every parameter and `cf` (R201). -/
theorem Twin.acceptExchange (kind : Kind) (dir : Direction) (p : Byte) :
    Twin (s.acceptExchange kind dir p) (u.acceptExchange kind dir p) := by
  have hfail := h.failRequest hidle
  obtain ⟨hrest, o, l, e, b, c, a, rfl⟩ := h.of_idle hidle
  rcases hbuild : build s.wire kind dir p s.devid with x | f
  · rw [State.acceptExchange_of_error hbuild, State.acceptExchange_of_error (s := s.withHidden o l e b c a) hbuild]
    exact hfail x
  · obtain ⟨k, d, m, rfl⟩ := exists_wireFrame_of_build hbuild
    rw [State.acceptExchange_of_build hbuild, State.acceptExchange_of_build (s := s.withHidden o l e b c a) hbuild]
    exact .running (s := exchangeBegun s k d m _) rfl _ ⟨nofun, nofun, fun _ => rfl⟩

/-- READ begins the same cycle: it writes every parameter, and no command (R170). -/
theorem Twin.acceptRead : Twin s.acceptRead u.acceptRead := by
  obtain ⟨hrest, o, l, e, b, c, a, rfl⟩ := h.of_idle hidle
  exact .running (s := s.acceptRead) rfl a ⟨nofun, nofun, nofun⟩

/-- PARSE answers alike: it reads PF (R150). -/
theorem Twin.serveParse : Twin s.serveParse u.serveParse := by
  obtain ⟨hrest, o, l, e, b, c, a, rfl⟩ := h.of_idle hidle
  obtain ⟨a₁, hs⟩ := s.serveParse_cases
  obtain ⟨a₂, hu⟩ := (s.withHidden o l e b c a).serveParse_cases
  have hpf : (s.withHidden o l e b c a).pf = s.pf := rfl
  rw [hpf] at hu
  rcases hs with ⟨v1, v2, hparse, hs⟩ | ⟨x, hparse, hs⟩
  · rcases hu with ⟨w1, w2, hparse', hu⟩ | ⟨y, hparse', _⟩
    · cases hparse.symm.trans hparse'
      rw [hs, hu]
      exact .resting (s := ({ s with acc := a₁ } : State).respond _) hidle hrest o l e b c a₂
    · cases hparse.symm.trans hparse'
  · rcases hu with ⟨w1, w2, hparse', _⟩ | ⟨y, hparse', hu⟩
    · cases hparse.symm.trans hparse'
    · cases hparse.symm.trans hparse'
      rw [hs, hu]
      exact (Twin.resting (s := { s with acc := a₁ }) hidle hrest o l e b c a₂).failRequest hidle x

/-- CFGW writes the same register (R222). -/
theorem Twin.writeConfig (reg : ConfigReg) (v : Word) : Twin (s.writeConfig reg v) (u.writeConfig reg v) := by
  obtain ⟨hrest, o, l, e, b, c, a, rfl⟩ := h.of_idle hidle
  cases reg with
  | devid => exact .resting (s := s.writeConfig .devid v) hidle hrest o l e b c a
  | maxrs => exact .resting (s := s.writeConfig .maxrs v) hidle hrest o l e b c a
  | ctrl => exact .resting (s := s.writeConfig .ctrl v) hidle hrest o l e b c a
  | timeout => exact .resting (s := s.writeConfig .timeout v) hidle hrest o l e b c a

/-- CFGR returns the same word (R223). -/
theorem Twin.returnConfig (reg : ConfigReg) :
    Twin (s.returnConfig (s.readConfig reg)) (u.returnConfig (u.readConfig reg)) := by
  obtain ⟨hrest, o, l, e, b, c, a, rfl⟩ := h.of_idle hidle
  have hread : (s.withHidden o l e b c a).readConfig reg = s.readConfig reg := by cases reg <;> rfl
  rw [hread]
  exact .resting (s := s.returnConfig _) hidle hrest o l e b c a

/-- A presented operation is accepted alike. -/
theorem Twin.accept {i : Instr} (hi : isPresented i = true) :
    ∃ k : State → State, (∀ x, exec i x = .next (x.whenIdle k)) ∧ Twin (k s) (k u) := by
  cases i with
  | cmdSetReportMode | cmdQuery | cmdSetSleep | cmdSetWorkPeriod | dataMeasurement | dataReply => cases hi
  | buildSetReportMode dir p => exact ⟨_, fun _ => rfl, h.serveBuild hidle .setReportMode dir p⟩
  | buildQuery dir p => exact ⟨_, fun _ => rfl, h.serveBuild hidle .query dir p⟩
  | buildSetSleep dir p => exact ⟨_, fun _ => rfl, h.serveBuild hidle .setSleep dir p⟩
  | buildSetWorkPeriod dir p => exact ⟨_, fun _ => rfl, h.serveBuild hidle .setWorkPeriod dir p⟩
  | xchgSetReportMode dir p => exact ⟨_, fun _ => rfl, h.acceptExchange hidle .setReportMode dir p⟩
  | xchgQuery dir p => exact ⟨_, fun _ => rfl, h.acceptExchange hidle .query dir p⟩
  | xchgSetSleep dir p => exact ⟨_, fun _ => rfl, h.acceptExchange hidle .setSleep dir p⟩
  | xchgSetWorkPeriod dir p => exact ⟨_, fun _ => rfl, h.acceptExchange hidle .setWorkPeriod dir p⟩
  | parse => exact ⟨_, fun _ => rfl, h.serveParse hidle⟩
  | read => exact ⟨_, fun _ => rfl, h.acceptRead hidle⟩
  | reservedOp | reservedBit8 | reservedBit9 => exact ⟨_, fun _ => rfl, h.failRequest hidle .invalidParameter⟩
  | cfgw reg v => exact ⟨_, fun _ => rfl, h.writeConfig hidle reg v⟩
  | cfgr reg => exact ⟨_, fun _ => rfl, h.returnConfig hidle reg⟩

/-- In idle twins a presented operation has twin results. -/
theorem Twin.exec {i : Instr} (hi : isPresented i = true) :
    ∃ t v, exec i s = .next t ∧ exec i u = .next v ∧ Twin t v := by
  obtain ⟨k, hexec, htwin⟩ := h.accept hidle hi
  obtain ⟨_, _, _, _, hbusy, _⟩ := h.sameOutside
  exact ⟨k s, k u, by rw [hexec, s.whenIdle_idle k hidle],
    by rw [hexec, u.whenIdle_idle k (hbusy.symm.trans hidle)], htwin⟩

end

/-! ## Runs of twins (R31) -/

/-- A move of the host is taken from both. -/
theorem Twin.takeMove {s u : State} (h : Twin s u) (ms : List HostMove) :
    Twin { s with moves := ms } { u with moves := ms } := by
  cases h with
  | resting hidle hrest o l e b c a => exact .resting (s := { s with moves := ms }) hidle hrest o l e b c a
  | running hbusy a h =>
    exact .running (s := { s with moves := ms }) hbusy a ⟨h.filled, h.whole, h.command⟩

/-- The bytes on PF reach both. -/
theorem Twin.latchPf {s u : State} (h : Twin s u) (pf : List Byte) : Twin { s with pf := pf } { u with pf := pf } := by
  cases h with
  | resting hidle hrest o l e b c a => exact .resting (s := { s with pf := pf }) hidle hrest o l e b c a
  | running hbusy a h => exact .running (s := { s with pf := pf }) hbusy a ⟨h.filled, h.whole, h.command⟩

/-- A reset makes twins the same (R280). -/
theorem Twin.applyReset {s u : State} (h : Twin s u) : Twin s.applyReset u.applyReset := by
  have heq : u.applyReset = s.applyReset := by cases h <;> rfl
  rw [heq]
  exact .resting (s := s.applyReset) rfl (atRest_applyReset s) _ _ _ _ _ _

/-- A step keeps twins twins, whatever the host's next move is. -/
theorem Twin.step {s u t : State} (h : Twin s u) (hstep : Machine.step s = .next t) :
    ∃ v, Machine.step u = .next v ∧ Twin t v := by
  obtain ⟨_, _, _, _, hbusy, _, hmoves, _⟩ := h.sameOutside
  cases hturn : blockTurn s with
  | true =>
    have hturn' : blockTurn u = true := by rw [← hturn, blockTurn, blockTurn, hmoves, hbusy]
    cases (step_of_blockTurn hturn).symm.trans hstep
    exact ⟨_, step_of_blockTurn hturn', h.ownStep⟩
  | false =>
    rcases hm : s.moves with _ | ⟨⟨w, pf⟩ | ⟨wr, a, d⟩ | _ | _ | _, ms⟩
    all_goals rw [hm] at hmoves
    case nil => simp [blockTurn, hm] at hturn
    case cons.request =>
      have hidle : s.busy = false := by simpa only [blockTurn, hm] using hturn
      obtain ⟨t', v, hs, hu, htwin⟩ := ((h.takeMove ms).latchPf pf).exec hidle (decodeRequest_place w).1
      cases ((step_request_of_idle s w pf ms hidle hm).trans hs).symm.trans hstep
      exact ⟨v, (step_request_of_idle u w pf ms (hbusy.symm.trans hidle) hmoves.symm).trans hu, htwin⟩
    case cons.config =>
      have hidle : s.busy = false := by simpa only [blockTurn, hm] using hturn
      have hplace : isPresented (decodeConfig wr a d) = true := by cases wr <;> rfl
      obtain ⟨t', v, hs, hu, htwin⟩ := (h.takeMove ms).exec hidle hplace
      cases ((step_config_of_idle hidle hm).trans hs).symm.trans hstep
      exact ⟨v, (step_config_of_idle (hbusy.symm.trans hidle) hmoves.symm).trans hu, htwin⟩
    case cons.hold =>
      cases (step_hold hm).symm.trans hstep
      exact ⟨_, step_hold hmoves.symm, (h.takeMove ms).ownStep⟩
    case cons.reset =>
      cases (step_reset hm).symm.trans hstep
      exact ⟨_, step_reset hmoves.symm, (h.takeMove ms).applyReset⟩
    case cons.foreign => cases (step_foreign hm).symm.trans hstep

/-- A run of any length keeps twins twins. -/
theorem Twin.run {s u t : State} {n : Nat} (h : Twin s u) (hrun : Sys2Proof.core.run n s = .next t) :
    ∃ v, Sys2Proof.core.run n u = .next v ∧ Twin t v := by
  induction n generalizing s u with
  | zero => cases hrun; exact ⟨u, rfl, h⟩
  | succ n ih =>
    cases hstep : Machine.step s with
    | next s' =>
      obtain ⟨u', hstep', h'⟩ := h.step hstep
      rw [core_run_succ n hstep] at hrun
      rw [core_run_succ n hstep']
      exact ih h' hrun
    | fault r => cases r
    | refused r =>
      have hcore : Sys2Proof.core.step s = .refused r := hstep
      simp only [Host.Core.run, hcore] at hrun
      cases hrun

/-- Settles O51: two resting blocks that look the same are twins, a run keeps them so, and twins look the same. -/
theorem idleBlockKeepsNoOtherInformation : Obligations.IdleBlockKeepsNoOtherInformation := by
  unfold Obligations.IdleBlockKeepsNoOtherInformation
  intro s u hidle hs hu houtside n t hrun
  obtain ⟨v, hrun', htwin⟩ := (twin_of_sameOutside hidle hs hu houtside).run hrun
  exact ⟨v, hrun', htwin.sameOutside⟩

end Sys2Proof.Machine
